-- ==== Sys2Proof/Word.lean ====
section
/-! DEFINITION. The words of the block (R46 to R48): what the manual treats as bits, and nothing else. -/

namespace Sys2Proof

/-- `IW[3:0] = {dm_n, sel_n, enc_b, enc_a}`, the four pin levels of one tick (R31, R46). -/
abbrev InputWord := BitVec 4

/-- `EW[4:0] = {pe, dst, lastA, a, b}`, the E-slot dispatch word (R47). -/
abbrev EWord := BitVec 5

/-- `CW[8:0] = {phase[2:0], tz, sel, dm, t0, ie, idx}`, the C-slot dispatch word (R48). -/
abbrev CWord := BitVec 9

end Sys2Proof
end

