-- ==== Sys2Proof/Config.lean ====
section
/-! DEFINITION. The constants (R6) and the implementation parameters (R5) of the block, and the two things the spec
leaves to the outside: the environment's clock edges (R32, R111) and the reset value of `lastA` (R28, D13). -/

namespace Sys2Proof

/-- The numeric constants of R6. -/
def targetMax : Int := 100
/-- R6. -/
def targetMin : Int := -100
/-- R6: step size of Fine. -/
def stepFine : Int := 1
/-- R6: step size of Coarse. -/
def stepCoarse : Int := 10
/-- R6: microseconds per unit of target. -/
def pulseGain : Int := 5
/-- R6: microseconds, neutral or stop. -/
def pulseNeutral : Int := 1500
/-- R6: implied by the clamp of the target, never enforced by a limiter. -/
def pulseMin : Int := 1000
/-- R6. -/
def pulseMax : Int := 2000
/-- R6: the cursor's clamp range. -/
def menuMin : Int := 0
/-- R6. -/
def menuMax : Int := 1

/-- The parameters of R5, fixed when the block is built (R23, R29). -/
structure Config where
  /-- `TICK_HZ`: ticks per second. No rule reads it but through the two tick counts (R139). -/
  tickHz : Nat
  /-- `T_DEBOUNCE`: length in ticks of the settle interval. -/
  tDebounce : Nat
  /-- `T_RAMP`: ticks from one ramp step to the next. -/
  tRamp : Nat
  /-- `LASTA_RESET`: the value of `lastA` after reset. -/
  lastAReset : Bool
  deriving DecidableEq, Repr

/-- `LASTA_RESET` of the machine `State.reset`: OPEN in the spec, both values must be admitted (R5, R28, D13), so it has
no body and no proof can see which it is (log entry 4). -/
opaque Config.openLastA : Bool

/-- Tick counts for a tick rate: 0.225 s and 0.025 s, as R5 gives them at the reference rate. DESIGN CHOICE (log entry 10):
where the product is no integer the count is rounded down; the spec gives no count there. Only `reference` uses this. -/
def Config.atRate (hz : Nat) (lastAReset : Bool) : Config :=
  { tickHz := hz, tDebounce := 225 * hz / 1000, tRamp := 25 * hz / 1000, lastAReset := lastAReset }

/-- The reference values of R5: 1000, 225, 25. DESIGN CHOICE (log entry 3): the build `State.reset` carries. -/
def Config.reference : Config := Config.atRate 1000 Config.openLastA

/-- `TMR_W` (R5): the least width W with 2^W > max(`T_DEBOUNCE`, `T_RAMP`) - 1. -/
def Config.tmrW (c : Config) : Nat :=
  match max c.tDebounce c.tRamp - 1 with
  | 0 => 0
  | m + 1 => Nat.log2 (m + 1) + 1

/-- What the block samples at one rising edge of `clk`: the reset input (R126) and the four pins (R31). -/
structure Edge where
  /-- `rst`, active high. -/
  rst : Bool
  /-- the sampled pins. -/
  iw : InputWord
  deriving DecidableEq, Repr, Inhabited

/-- What the environment applies at clock edge number n when nothing has been placed for it: any reset level and any of
the 16 input words, with no constraint between edges (R32, R111). No body: a free value (log entry 2). -/
opaque Config.freeEdge : Nat → Edge

end Sys2Proof
end

