-- ==== Sys2Proof/Syntax.lean ====
section
/-! DEFINITION. The syntax: the 28 operations of opcode_table.json (R45), one constructor a row, the two operations of a
tick, the names of the register codes (R16, R19, R21, R110), and the stimulus notation (R57, R58). -/

namespace Sys2Proof

/-- The two operation positions of a tick (R45): E, the encoder unit, then C, the control unit. -/
inductive Slot
  | E
  | C
  deriving DecidableEq, Repr

/-- The operations. A dispatch word holds no operand (R49): its uncompared bits have no effect (R54), so a constructor
has no argument. -/
inductive Instr
  /-- `ENC_HOLD`, R61: no poll. -/
  | encHold
  /-- `ENC_LOW`, R62: poll, A steady LOW. -/
  | encLow
  /-- `ENC_HIGH`, R63: poll, A steady HIGH. -/
  | encHigh
  /-- `ENC_FALL`, R64: poll, A falls. -/
  | encFall
  /-- `ENC_INC_M`, R65: poll on the menu, A rises with B HIGH. -/
  | encIncM
  /-- `ENC_DEC_M`, R66: poll on the menu, A rises with B LOW. -/
  | encDecM
  /-- `ENC_INC_T`, R67: poll on the control screen, A rises with B HIGH. -/
  | encIncT
  /-- `ENC_DEC_T`, R68: poll on the control screen, A rises with B LOW. -/
  | encDecT
  /-- `MENU_POLL`, R84: on the menu, select not pressed. -/
  | menuPoll
  /-- `MENU_PRESS`, R85: on the menu, select seen pressed. -/
  | menuPress
  /-- `MENU_DB_WAIT`, R87: inside the menu press's settle interval. -/
  | menuDbWait
  /-- `SEL_MASTER`, R88: settle interval over, cursor on item 0. -/
  | selMaster
  /-- `SEL_SLAVE`, R89: settle interval over, cursor on item 1. -/
  | selSlave
  /-- `MODE_PRESS`, R70: select seen pressed on the control screen. -/
  | modePress
  /-- `IDLE_POLL`, R91: Idle, nothing pressed. -/
  | idlePoll
  /-- `RAMP_START`, R92: Idle, dead-man held, target not zero. -/
  | rampStart
  /-- `RAMP_ZERO`, R93: Idle, dead-man held, target exactly zero. -/
  | rampZero
  /-- `MODE_DB_WAIT`, R71: inside the toggle's settle interval. -/
  | modeDbWait
  /-- `MODE_TOGGLE`, R72: the toggle's settle interval is over. -/
  | modeToggle
  /-- `RAMP_WAIT`, R94: Ramping, between two steps. -/
  | rampWait
  /-- `RAMP_ABORT`, R97: Ramping, step tick, dead-man released. -/
  | rampAbort
  /-- `RAMP_STEP`, R95: Ramping, step tick, dead-man held, more steps to go. -/
  | rampStep
  /-- `RAMP_DONE`, R96: Ramping, step tick, dead-man held, last step already written. -/
  | rampDone
  /-- `HOLD_WRITE`, R98: Holding, dead-man held. -/
  | holdWrite
  /-- `HOLD_RELEASE`, R99: Holding, dead-man released. -/
  | holdRelease
  /-- `SETTLE_WAIT`, R101: inside the post-release settle interval. -/
  | settleWait
  /-- `SETTLE_DONE`, R102: the post-release settle interval is over. -/
  | settleDone
  /-- `SLAVE_WAIT`, R83: the inert slave screen. -/
  | slaveWait
  deriving DecidableEq, Repr

/-- The slot whose dispatch word selects the operation: the table's `format` (R52). -/
def Instr.slot : Instr → Slot
  | .encHold | .encLow | .encHigh | .encFall | .encIncM | .encDecM | .encIncT | .encDecT => .E
  | .menuPoll | .menuPress | .menuDbWait | .selMaster | .selSlave | .modePress | .idlePoll | .rampStart
  | .rampZero | .modeDbWait | .modeToggle | .rampWait | .rampAbort | .rampStep | .rampDone | .holdWrite
  | .holdRelease | .settleWait | .settleDone | .slaveWait => .C

/-- What one tick executes: one operation for each slot (R45). A pair is well formed when each stands in its own slot
(`TickOps.wf`). -/
structure TickOps where
  /-- the E slot's operation. -/
  e : Instr
  /-- the C slot's operation. -/
  c : Instr
  deriving DecidableEq, Repr

/-- A dispatch word, in the format of its slot (R47, R48, R55). -/
inductive DispatchWord
  | e (w : EWord)
  | c (w : CWord)
  deriving DecidableEq, Repr

/-- The slot a dispatch word's format belongs to. -/
def DispatchWord.slot : DispatchWord → Slot
  | .e _ => .E
  | .c _ => .C

/-- An instruction word as the opcode table gives it to the decoder: a number of `nbits` bits, bit 0 the least
significant (R8, R52). A table word is well formed when it fits its format (`TableWord.wf`). -/
structure TableWord where
  /-- the row's width in whole bytes: 8 for format E (5 bits), 16 for format C (9 bits). -/
  nbits : Nat
  /-- the bits. -/
  w : Nat
  deriving DecidableEq, Repr

/-- Why the decoder refuses a table word. Safe: no dispatch word of the block is refused (R53), only numbers that are
no dispatch word at all. -/
inductive DecodeError
  /-- the number has a bit set above the format's width. -/
  | wordTooWide
  /-- no format has that many bits. -/
  | noSuchFormat
  deriving DecidableEq, Repr

/-- The sequencing register's values (R16). -/
inductive Phase
  | menu
  | menuDb
  | ctrlIdle
  | ctrlDb
  | ramp
  | hold
  | settle
  | slave
  deriving DecidableEq, Repr

/-- The source's AdjustmentMode (R19). -/
inductive AdjMode
  | fine
  | coarse
  deriving DecidableEq, Repr

/-- The source's OperatingMode (R21), a view of `phase`, not a register. -/
inductive OpMode
  | unselected
  | master
  | slave
  deriving DecidableEq, Repr

/-- The seven redraw requests of R110. -/
inductive DispKind
  | menuCursor
  | ctrlScreen
  | value
  | modeLabel
  | progress
  | ready
  | slaveScreen
  deriving DecidableEq, Repr

/-- A term of the stimulus notation (R57, R58), the analog of a line of assembler. -/
inductive Stim
  /-- `w*n`: the input word w for n ticks. -/
  | word (iw : InputWord) (n : Nat)
  /-- `INC`. -/
  | inc
  /-- `DEC`. -/
  | dec
  /-- `REST(n)`. -/
  | rest (n : Nat)
  /-- `PRESS(n)`. -/
  | press (n : Nat)
  /-- `DM(n)`. -/
  | dm (n : Nat)
  /-- the suffix `.d`: with the dead-man held. -/
  | held (t : Stim)
  /-- the suffix `.s`: with select pressed. -/
  | pressed (t : Stim)
  deriving DecidableEq, Repr

end Sys2Proof
end

