-- ==== Sys2Proof/WellFormed.lean ====
section
/-! DEFINITION. The checks on terms: each operation of a tick in its own slot (R45), a table word inside its format
(R47, R48), the parameters inside their constraints (R5). Every `Instr` alone and every dispatch word is well formed:
nothing is reserved or illegal (R53). -/

namespace Sys2Proof

/-- R45: an E-slot operation first, a C-slot operation second. -/
def TickOps.wf (t : TickOps) : Bool :=
  decide (t.e.slot = .E) && decide (t.c.slot = .C)

/-- R47, R48, R55: a word of 8 bits holds a 5-bit `EW`, a word of 16 bits a 9-bit `CW`, and there is no other format. -/
def TableWord.wf (t : TableWord) : Bool :=
  (decide (t.nbits ≤ 8) && decide (t.w < 32)) ||
    (decide (8 < t.nbits) && decide (t.nbits ≤ 16) && decide (t.w < 512))

/-- The constraint column of R5: `TICK_HZ` positive, both intervals at least one tick (also R128 item 3). -/
def Config.wf (c : Config) : Bool :=
  decide (0 < c.tickHz) && decide (1 ≤ c.tDebounce) && decide (1 ≤ c.tRamp)

end Sys2Proof
end

