-- ==== Sys2Proof/Decode.lean ====
section
/-! DEFINITION. The codes of the registers (R16, R19, R21, R110), the decoder of the two dispatch words (the operation
maps R50, R51), total on every word; then the encoder, written from the match and mask columns of opcode_table.json
(R52), and the expansion of the stimulus notation (R58). -/

namespace Sys2Proof

/-- R16, the value column. -/
def Phase.code : Phase → BitVec 3
  | .menu => 0b000
  | .menuDb => 0b001
  | .ctrlIdle => 0b010
  | .ctrlDb => 0b011
  | .ramp => 0b100
  | .hold => 0b101
  | .settle => 0b110
  | .slave => 0b111

/-- R16 read the other way; all eight codes are used. -/
def Phase.ofCode (c : BitVec 3) : Phase :=
  match c.getLsbD 2, c.getLsbD 1, c.getLsbD 0 with
  | false, false, false => .menu
  | false, false, true => .menuDb
  | false, true, false => .ctrlIdle
  | false, true, true => .ctrlDb
  | true, false, false => .ramp
  | true, false, true => .hold
  | true, true, false => .settle
  | true, true, true => .slave

/-- R19: 0 Fine, 1 Coarse. -/
def AdjMode.code : AdjMode → BitVec 1
  | .fine => 0
  | .coarse => 1

/-- R21: 0 Unselected, 1 Master, 2 Slave; 3 never appears. -/
def OpMode.code : OpMode → BitVec 2
  | .unselected => 0
  | .master => 1
  | .slave => 2

/-- R110, the strobe vector with the kind's one bit set. -/
def DispKind.mask : DispKind → BitVec 7
  | .menuCursor => 0b0000001
  | .ctrlScreen => 0b0000010
  | .value => 0b0000100
  | .modeLabel => 0b0001000
  | .progress => 0b0010000
  | .ready => 0b0100000
  | .slaveScreen => 0b1000000

/-- The E-slot map (R50) over `EW = {pe, dst, lastA, a, b}`. -/
def decodeE (w : EWord) : Instr :=
  match w.getLsbD 4, w.getLsbD 3, w.getLsbD 2, w.getLsbD 1, w.getLsbD 0 with
  | false, _, _, _, _ => .encHold
  | true, _, false, false, _ => .encLow
  | true, _, true, true, _ => .encHigh
  | true, _, true, false, _ => .encFall
  | true, false, false, true, true => .encIncM
  | true, false, false, true, false => .encDecM
  | true, true, false, true, true => .encIncT
  | true, true, false, true, false => .encDecT

/-- The `phase` field of `CW`, bits 8:6 (R48). -/
def CWord.phase (w : CWord) : Phase :=
  Phase.ofCode (w.extractLsb' 6 3)

/-- The C-slot map (R51) over `CW = {phase[2:0], tz, sel, dm, t0, ie, idx}`. -/
def decodeC (w : CWord) : Instr :=
  let tz := w.getLsbD 5
  let sel := w.getLsbD 4
  let dm := w.getLsbD 3
  let t0 := w.getLsbD 2
  let ie := w.getLsbD 1
  let idx := w.getLsbD 0
  match CWord.phase w with
  | .menu => if sel then .menuPress else .menuPoll
  | .menuDb => if tz then (if idx then .selSlave else .selMaster) else .menuDbWait
  | .ctrlIdle =>
    if sel then .modePress
    else if dm then (if t0 then .rampZero else .rampStart)
    else .idlePoll
  | .ctrlDb => if tz then .modeToggle else .modeDbWait
  | .ramp =>
    if tz then
      (if dm then (if ie then .rampDone else .rampStep) else .rampAbort)
    else .rampWait
  | .hold => if dm then .holdWrite else .holdRelease
  | .settle => if tz then .settleDone else .settleWait
  | .slave => .slaveWait

/-- The decoder: total on dispatch words, no word illegal (R53). -/
def decode : DispatchWord → Instr
  | .e w => decodeE w
  | .c w => decodeC w

/-- The two operations a tick's two dispatch words select (R45). -/
def decodeTick (ew : EWord) (cw : CWord) : TickOps :=
  { e := decodeE ew, c := decodeC cw }

/-- A table word read as a dispatch word, or the reason it is none. -/
def TableWord.toDispatch (t : TableWord) : Except DecodeError DispatchWord :=
  if t.nbits ≤ 8 then
    if t.w < 32 then .ok (.e (BitVec.ofNat 5 t.w)) else .error .wordTooWide
  else if t.nbits ≤ 16 then
    if t.w < 512 then .ok (.c (BitVec.ofNat 9 t.w)) else .error .wordTooWide
  else .error .noSuchFormat

/-- The instruction the decoder reads from a table word of `nbits` bits; none where it refuses. The block stores no
word anywhere (R43), so there is no byte order to lay one out in (log entry 9). -/
def decodeTableWord (nbits w : Nat) : Option Instr :=
  match (TableWord.mk nbits w).toDispatch with
  | .ok d => some (decode d)
  | .error _ => none

/-- A row's mask and match columns (R52). A format-E row uses the low five bits. -/
structure Pattern where
  /-- which bits are compared. -/
  mask : BitVec 9
  /-- the value they must have. -/
  val : BitVec 9
  deriving DecidableEq, Repr

/-- opcode_table.json, columns `mask` and `match`, row by row. -/
def Instr.pattern : Instr → Pattern
  | .encHold => ⟨0x10, 0x00⟩
  | .encLow => ⟨0x16, 0x10⟩
  | .encHigh => ⟨0x16, 0x16⟩
  | .encFall => ⟨0x16, 0x14⟩
  | .encIncM => ⟨0x1f, 0x13⟩
  | .encDecM => ⟨0x1f, 0x12⟩
  | .encIncT => ⟨0x1f, 0x1b⟩
  | .encDecT => ⟨0x1f, 0x1a⟩
  | .menuPoll => ⟨0x1d0, 0x000⟩
  | .menuPress => ⟨0x1d0, 0x010⟩
  | .menuDbWait => ⟨0x1e0, 0x040⟩
  | .selMaster => ⟨0x1e1, 0x060⟩
  | .selSlave => ⟨0x1e1, 0x061⟩
  | .modePress => ⟨0x1d0, 0x090⟩
  | .idlePoll => ⟨0x1d8, 0x080⟩
  | .rampStart => ⟨0x1dc, 0x088⟩
  | .rampZero => ⟨0x1dc, 0x08c⟩
  | .modeDbWait => ⟨0x1e0, 0x0c0⟩
  | .modeToggle => ⟨0x1e0, 0x0e0⟩
  | .rampWait => ⟨0x1e0, 0x100⟩
  | .rampAbort => ⟨0x1e8, 0x120⟩
  | .rampStep => ⟨0x1ea, 0x128⟩
  | .rampDone => ⟨0x1ea, 0x12a⟩
  | .holdWrite => ⟨0x1c8, 0x148⟩
  | .holdRelease => ⟨0x1c8, 0x140⟩
  | .settleWait => ⟨0x1e0, 0x180⟩
  | .settleDone => ⟨0x1e0, 0x1a0⟩
  | .slaveWait => ⟨0x1c0, 0x1c0⟩

/-- R52: a dispatch word selects the row with `(w AND mask) == match`. -/
def Pattern.selects (p : Pattern) (w : BitVec 9) : Bool :=
  w &&& p.mask == p.val

/-- R52 for a word of either format: the row's format is the word's and its pattern selects it. -/
def Instr.selectedBy (i : Instr) : DispatchWord → Bool
  | .e w => i.slot == .E && i.pattern.selects (w.setWidth 9)
  | .c w => i.slot == .C && i.pattern.selects w

/-- The encoder: the row's fixed bits, and the bits of `fill` where the row compares nothing. Every word of the row is
`encode i fill` for some fill. -/
def encode (i : Instr) (fill : BitVec 9) : DispatchWord :=
  match i.slot with
  | .E => .e ((i.pattern.val ||| (fill &&& ~~~ i.pattern.mask)).setWidth 5)
  | .C => .c (i.pattern.val ||| (fill &&& ~~~ i.pattern.mask))

/-- The row's mnemonic in opcode_table.json. -/
def Instr.mnemonic : Instr → String
  | .encHold => "ENC_HOLD"
  | .encLow => "ENC_LOW"
  | .encHigh => "ENC_HIGH"
  | .encFall => "ENC_FALL"
  | .encIncM => "ENC_INC_M"
  | .encDecM => "ENC_DEC_M"
  | .encIncT => "ENC_INC_T"
  | .encDecT => "ENC_DEC_T"
  | .menuPoll => "MENU_POLL"
  | .menuPress => "MENU_PRESS"
  | .menuDbWait => "MENU_DB_WAIT"
  | .selMaster => "SEL_MASTER"
  | .selSlave => "SEL_SLAVE"
  | .modePress => "MODE_PRESS"
  | .idlePoll => "IDLE_POLL"
  | .rampStart => "RAMP_START"
  | .rampZero => "RAMP_ZERO"
  | .modeDbWait => "MODE_DB_WAIT"
  | .modeToggle => "MODE_TOGGLE"
  | .rampWait => "RAMP_WAIT"
  | .rampAbort => "RAMP_ABORT"
  | .rampStep => "RAMP_STEP"
  | .rampDone => "RAMP_DONE"
  | .holdWrite => "HOLD_WRITE"
  | .holdRelease => "HOLD_RELEASE"
  | .settleWait => "SETTLE_WAIT"
  | .settleDone => "SETTLE_DONE"
  | .slaveWait => "SLAVE_WAIT"

/-- R58, the expansion column; a suffix clears its bit in every word. -/
def Stim.expand : Stim → List InputWord
  | .word iw n => List.replicate n iw
  | .inc => [0b1110, 0b1111]
  | .dec => [0b1100, 0b1101]
  | .rest n => List.replicate n 0b1100
  | .press n => List.replicate n 0b1000
  | .dm n => List.replicate n 0b0100
  | .held t => t.expand.map (fun w => w &&& 0b0111)
  | .pressed t => t.expand.map (fun w => w &&& 0b1011)

/-- A stimulus (R57) as the edges of its ticks: no reset among them. -/
def Stim.edges (ts : List Stim) : List Edge :=
  (ts.flatMap Stim.expand).map (fun w => { rst := false, iw := w })

end Sys2Proof
end

