-- ==== Sys2Proof/Machine/State.lean ====
section
/-! DEFINITION. The state (R10), the strobes of the last tick (R33), what the model carries beside them, the reset
values (R28), and the reasons a step could stop: there are none (R113). -/

namespace Sys2Proof.Machine

/-- The state after a tick. The first ten fields are the block's registers, all of them (R10). -/
structure State where
  /-- `phase` (R16): where the loop is; during a tick, the phase the tick started in. -/
  phase : Phase
  /-- `lastA` (R17): the level of channel A seen by the last poll. -/
  lastA : Bool
  /-- `menu_idx` (R12): 0 the Master item, 1 the Slave item (R86). -/
  menuIdx : Fin 2
  /-- `adj_mode` (R19). -/
  adjMode : AdjMode
  /-- `target` (R11), signed. R7 allows an unbounded integer (log entry 5). -/
  target : Int
  /-- `ramp_i` (R13): the index of the last ramp step written. -/
  rampI : Nat
  /-- `tmr` (R14, R121): the down-counter of the blocking delays. -/
  tmr : Nat
  /-- `pwm_en` (R20): the enable gate of both channels. -/
  pwmEn : Bool
  /-- `pulse_a` (R15), microseconds. -/
  pulseA : Int
  /-- `pulse_b` (R15), microseconds. -/
  pulseB : Int
  /-- The `wr(a, b)` event of the last tick (R109), on the pin `pwm_wr` in the tick after it (R33; log entry 6). -/
  wr : Option (Int × Int)
  /-- The `disp` events of the last tick, on `disp_req[6:0]` in the tick after it (R110; log entry 6). -/
  disp : BitVec 7
  /-- The build parameters (R5, R29). The model's own field: no step writes it (log entry 3). -/
  cfg : Config
  /-- The clock edges already fixed, next first: a stimulus (R57). The model's own field (log entry 2). -/
  inputs : List Edge
  /-- How many clock edges have been taken: the index of the environment's free edge. The model's own field (log
  entry 2). -/
  edges : Nat
  deriving DecidableEq, Repr

/-- The reasons a step stops with a fault: none. The block raises no exception and a step always has a next state
(R113); the type is empty, so that Lean itself checks that no meaning faults. -/
inductive Fault
  deriving DecidableEq, Repr

/-- The reasons a step has no meaning. -/
inductive Refusal
  /-- Raised by `exec` alone, for an operation that has no meaning yet; no arm raises it now. Safe: the step stops. -/
  | notModelled (mnemonic : String)
  deriving DecidableEq, Repr

/-- The reset values of R28 and R127 for a build with the parameters `c`; nothing placed on the inputs. -/
def State.resetWith (c : Config) : State where
  phase := .menu
  lastA := c.lastAReset
  menuIdx := 0
  adjMode := .fine
  target := 0
  rampI := 0
  tmr := 0
  pwmEn := false
  pulseA := 1500
  pulseB := 1500
  wr := none
  disp := 0
  cfg := c
  inputs := []
  edges := 0

/-- The machine right after reset (R28), in the reference build (log entry 3), with `LASTA_RESET` left open (log
entry 4). -/
def State.reset : State := State.resetWith Config.reference

end Sys2Proof.Machine
end

