-- ==== Sys2Proof/Machine/Operands.lean ====
section
/-! DEFINITION. Operand assembly (R49): the sampled inputs, the step size, the clamp, the pulse mapping (R76 to R79).
Arithmetic is over the mathematical integers (R8, R81). -/

namespace Sys2Proof.Machine

/-- `a = IW[0]`: channel A (R46). -/
def inA (iw : InputWord) : Bool := iw.getLsbD 0

/-- `b = IW[1]`: channel B (R46). -/
def inB (iw : InputWord) : Bool := iw.getLsbD 1

/-- `sel = 1 - IW[2]`: select pressed, the pin is active low (R46). -/
def inSel (iw : InputWord) : Bool := !iw.getLsbD 2

/-- `dm = 1 - IW[3]`: dead-man held, the pin is active low (R46). -/
def inDm (iw : InputWord) : Bool := !iw.getLsbD 3

/-- R76, for `lo ≤ hi`: saturates at the bounds; the argument is formed exactly, before the clamp. -/
def clamp (v lo hi : Int) : Int :=
  if v < lo then lo else if hi < v then hi else v

/-- R77: the step size of an adjustment mode. -/
def stepSize : AdjMode → Int
  | .fine => stepFine
  | .coarse => stepCoarse

/-- The target an event of signed amount `delta` leaves (R60, R67, R68). -/
def targetAfter (s : State) (delta : Int) : Int :=
  clamp (s.target + delta) targetMin targetMax

/-- The cursor an event of signed amount `delta` leaves (R60, R65, R66); the clamp has put it in 0..1. -/
def menuIdxAfter (s : State) (delta : Int) : Fin 2 :=
  Fin.ofNat 2 (clamp ((s.menuIdx.val : Int) + delta) menuMin menuMax).toNat

/-- `sgn(target)` (R8). -/
def targetSign (s : State) : Int := s.target.sign

/-- `abs(target)` (R8). -/
def targetAbs (s : State) : Nat := s.target.natAbs

/-- R79: channel A at the signed offset count n. -/
def pulseAOf (n : Int) : Int := pulseNeutral + pulseGain * n

/-- R79: channel B, the mirrored channel. -/
def pulseBOf (n : Int) : Int := pulseNeutral - pulseGain * n

end Sys2Proof.Machine
end

