-- ==== Sys2Proof/Machine/Flags.lean ====
section
/-! DEFINITION. The conditions of the dispatch, recomputed every tick and stored nowhere (R18), and the two dispatch words
built from them (R47, R48). -/

namespace Sys2Proof.Machine

/-- `pe`, poll enable (R47): in bits, `(phase[2] == 0) and (phase[0] == 0)`. -/
def pollEnable (p : Phase) : Bool :=
  !p.code.getLsbD 2 && !p.code.getLsbD 0

/-- `dst`, destination of a step (R47): `phase[1]`. -/
def stepDst (p : Phase) : Bool := p.code.getLsbD 1

/-- `tz` (R48): the delay is over. -/
def timerZero (s : State) : Bool := s.tmr == 0

/-- `t0` (R48): the target, as the E slot left it, is zero. -/
def targetZero (s : State) : Bool := s.target == 0

/-- `ie`, ramp end (R48): greater or equal, not equal, so that an unreachable count beyond the target ends the ramp. -/
def rampEnd (s : State) : Bool := decide (targetAbs s ≤ s.rampI)

/-- `idx` (R48): the cursor, as the E slot left it. -/
def menuBit (s : State) : Bool := s.menuIdx == 1

/-- `EW` (R47), from the state at the start of the tick and the sample. -/
def eWord (s : State) (iw : InputWord) : EWord :=
  BitVec.ofBool (pollEnable s.phase) ++ BitVec.ofBool (stepDst s.phase) ++ BitVec.ofBool s.lastA ++
    BitVec.ofBool (inA iw) ++ BitVec.ofBool (inB iw)

/-- `CW` (R48), from the state the E slot left and the sample; the E slot writes none of `phase`, `tmr`, `ramp_i`. -/
def cWord (s : State) (iw : InputWord) : CWord :=
  s.phase.code ++ BitVec.ofBool (timerZero s) ++ BitVec.ofBool (inSel iw) ++ BitVec.ofBool (inDm iw) ++
    BitVec.ofBool (targetZero s) ++ BitVec.ofBool (rampEnd s) ++ BitVec.ofBool (menuBit s)

end Sys2Proof.Machine
end

