-- ==== Sys2Proof/Machine/Ops.lean ====
section
/-! DEFINITION. The operations every meaning is written over: the register writes, the two events, the delays, the pair,
the safe-stop and its return, the sampling of a clock edge, and the reset edge. -/

namespace Sys2Proof.Machine

/-- `phase <- p`: the block's form of `pc <- target` (R8). -/
def State.setPhase (s : State) (p : Phase) : State := { s with phase := p }

/-- `lastA <- a` (R17). -/
def State.setLastA (s : State) (a : Bool) : State := { s with lastA := a }

/-- `menu_idx <- i` (R12). -/
def State.setMenuIdx (s : State) (i : Fin 2) : State := { s with menuIdx := i }

/-- `adj_mode <- m` (R19). -/
def State.setAdjMode (s : State) (m : AdjMode) : State := { s with adjMode := m }

/-- `target <- v` (R11). -/
def State.setTarget (s : State) (v : Int) : State := { s with target := v }

/-- `ramp_i <- k` (R13). -/
def State.setRampI (s : State) (k : Nat) : State := { s with rampI := k }

/-- `tmr <- n` (R14). -/
def State.setTmr (s : State) (n : Nat) : State := { s with tmr := n }

/-- `pwm_en <- b` (R20). -/
def State.setPwmEn (s : State) (b : Bool) : State := { s with pwmEn := b }

/-- The two channels are written together, by one operation, and `emit wr(a, b)` records it (R15, R34, R109). -/
def State.writePair (s : State) (a b : Int) : State :=
  { s with pulseA := a, pulseB := b, wr := some (a, b) }

/-- `emit disp(K)`: sets strobe K for this tick (R110). -/
def State.emitDisp (s : State) (k : DispKind) : State :=
  { s with disp := s.disp ||| k.mask }

/-- A delay of t ticks begins: `tmr <- t - 1` (R14, R121). -/
def State.startDelay (s : State) (t : Nat) : State := s.setTmr (t - 1)

/-- A waiting tick: `tmr <- tmr - 1`. Dispatched only while `tmr` is not 0 (R121; log entry 8). -/
def State.countDown (s : State) : State := s.setTmr (s.tmr - 1)

/-- The pair of the signed offset count n (R79), written together. -/
def State.writeOffset (s : State) (n : Int) : State :=
  s.writePair (pulseAOf n) (pulseBOf n)

/-- A poll that sees A at the level a ends with `lastA <- a` (R17, R60). -/
def State.pollA (s : State) (a : Bool) : State := s.setLastA a

/-- A rising edge on the control screen: the target steps by `delta` and saturates; A was seen HIGH (R67, R68). -/
def State.stepTarget (s : State) (delta : Int) : State :=
  ((s.setTarget (targetAfter s delta)).pollA true).emitDisp .value

/-- A rising edge on the menu: the cursor steps by `delta` and saturates; A was seen HIGH (R65, R66). -/
def State.stepMenu (s : State) (delta : Int) : State :=
  ((s.setMenuIdx (menuIdxAfter s delta)).pollA true).emitDisp .menuCursor

/-- Safe-stop entry (R117), what stands for taking an exception: the outputs disabled, the settle interval started,
control to `SETTLE`; nothing is saved. -/
def State.safeStop (s : State) : State :=
  ((s.setPwmEn false).startDelay s.cfg.tDebounce).setPhase .settle

/-- Safe-stop return (R118): back to polling, nothing restored; the control screen is redrawn. -/
def State.settleReturn (s : State) : State :=
  (s.setPhase .ctrlIdle).emitDisp .ctrlScreen

/-- What the environment applies at the clock edge j edges after the next one: what was placed there, else its free
choice (R32, R111; log entry 2). -/
def State.edgeAt (s : State) (j : Nat) : Edge :=
  (s.inputs[j]?).getD (Config.freeEdge (s.edges + j))

/-- The clock edge the next step samples (R31, R126). -/
def State.nextEdge (s : State) : Edge := s.edgeAt 0

/-- The edge has been sampled: the next one comes up, and the strobes of the tick before are over (R33). -/
def State.takeEdge (s : State) : State :=
  { s with inputs := s.inputs.tail, edges := s.edges + 1, wr := none, disp := 0 }

/-- An edge with `rst` high: every register takes its reset value, no event is emitted, the data inputs are ignored
(R126). The build and the environment's later edges are no part of what is reset. -/
def State.resetEdge (s : State) : State :=
  { State.resetWith s.cfg with inputs := s.inputs.tail, edges := s.edges + 1 }

/-- One outcome after another: a stop ends the tick. -/
def andThen (o : Host.Outcome State Fault Refusal) (f : State → Host.Outcome State Fault Refusal) :
    Host.Outcome State Fault Refusal :=
  match o with
  | .next s => f s
  | .fault r => .fault r
  | .refused r => .refused r

end Sys2Proof.Machine
end

