-- ==== Sys2Proof/Machine/Fetch.lean ====
section
/-! DEFINITION. Making a given dispatch word the one the next tick builds. The block fetches nothing from storage (R43):
a dispatch word is built from the registers and the sample, so a word is placed by setting those (log entry 9). -/

namespace Sys2Proof.Machine

/-- The edge e is the next to be sampled, in the place of what stood there. -/
def State.placeEdge (s : State) (e : Edge) : State := { s with inputs := e :: s.inputs.tail }

/-- An edge without reset whose pins make `sel`, `dm`, `b`, `a` (R46). -/
def edgeOf (dm sel b a : Bool) : Edge :=
  { rst := false, iw := BitVec.ofBool (!dm) ++ BitVec.ofBool (!sel) ++ BitVec.ofBool b ++ BitVec.ofBool a }

/-- A phase with the given `pe` and `dst` (R47). -/
def phaseFor (pe dst : Bool) : Phase :=
  match pe, dst with
  | true, false => .menu
  | true, true => .ctrlIdle
  | false, false => .menuDb
  | false, true => .slave

/-- The next tick's `EW` is w: phase and `lastA` set, the pins set, nothing pressed. `tmr` is kept off 0 in `MENU_DB` so
that the tick's C slot only waits. -/
def State.placeE (s : State) (w : EWord) : State :=
  let s1 := (s.setPhase (phaseFor (w.getLsbD 4) (w.getLsbD 3))).setLastA (w.getLsbD 2)
  let s2 := if s1.phase = .menuDb then s1.setTmr (max s1.tmr 1) else s1
  s2.placeEdge (edgeOf false false (w.getLsbD 0) (w.getLsbD 1))

/-- A state whose `t0` and `ie` are those given. `t0` with not `ie` fits no state, since `ramp_i ≥ 0`: then the one the
phase's operations compare is kept, `ie` in `RAMP`, `t0` elsewhere. -/
def State.placeRamp (s : State) (t0 ie : Bool) : State :=
  let zero := t0 && (ie || !(s.phase == Phase.ramp))
  let s1 := s.setTarget (if zero then 0 else if s.target = 0 then 1 else s.target)
  s1.setRampI (if ie then max s1.rampI (targetAbs s1) else if s1.rampI < targetAbs s1 then s1.rampI else 0)

/-- The next tick's `CW` is w, as far as any state gives it: registers and pins set, A LOW and seen LOW so that the
tick's E slot changes nothing. -/
def State.placeC (s : State) (w : CWord) : State :=
  let s1 := ((s.setPhase (CWord.phase w)).setTmr (if w.getLsbD 5 then 0 else max s.tmr 1)).setLastA false
  let s2 := (s1.placeRamp (w.getLsbD 2) (w.getLsbD 1)).setMenuIdx (if w.getLsbD 0 then 1 else 0)
  s2.placeEdge (edgeOf (w.getLsbD 3) (w.getLsbD 4) false false)

/-- A table word of `nbits` bits placed: 8 bits hold an `EW`, 16 a `CW` (R52). -/
def State.placeWord (s : State) (nbits w : Nat) : State :=
  if nbits ≤ 8 then s.placeE (BitVec.ofNat 5 w) else s.placeC (BitVec.ofNat 9 w)

end Sys2Proof.Machine
end

