-- ==== Sys2Proof/Machine/Encoder.lean ====
section
/-! DEFINITION. The Encoder Decoder: the eight operations of the E slot (40_encoder_decoder.md). The levels of A and B an
operation depends on are in its encoding, so no meaning reads the sample again. -/

namespace Sys2Proof.Machine

/-- R61: no register is written; in particular `lastA` goes stale. -/
def execEncHold (s : State) : Host.Outcome State Fault Refusal := .next s

/-- R62. -/
def execEncLow (s : State) : Host.Outcome State Fault Refusal := .next (s.pollA false)

/-- R63. -/
def execEncHigh (s : State) : Host.Outcome State Fault Refusal := .next (s.pollA true)

/-- R64: re-arms the edge detector. -/
def execEncFall (s : State) : Host.Outcome State Fault Refusal := .next (s.pollA false)

/-- R65. -/
def execEncIncM (s : State) : Host.Outcome State Fault Refusal :=
  .next (s.stepMenu (stepSize s.adjMode))

/-- R66. -/
def execEncDecM (s : State) : Host.Outcome State Fault Refusal :=
  .next (s.stepMenu (-stepSize s.adjMode))

/-- R67. -/
def execEncIncT (s : State) : Host.Outcome State Fault Refusal :=
  .next (s.stepTarget (stepSize s.adjMode))

/-- R68. -/
def execEncDecT (s : State) : Host.Outcome State Fault Refusal :=
  .next (s.stepTarget (-stepSize s.adjMode))

end Sys2Proof.Machine
end

