-- ==== Sys2Proof/Machine/Menu.lean ====
section
/-! DEFINITION. The Menu/Mode State Machine: the C-slot operations of MENU, MENU_DB and SLAVE (43_menu_mode.md). -/

namespace Sys2Proof.Machine

/-- R84: no register is written. -/
def execMenuPoll (s : State) : Host.Outcome State Fault Refusal := .next s

/-- R85: the press's settle interval starts. -/
def execMenuPress (s : State) : Host.Outcome State Fault Refusal :=
  .next ((s.startDelay s.cfg.tDebounce).setPhase .menuDb)

/-- R87. -/
def execMenuDbWait (s : State) : Host.Outcome State Fault Refusal := .next s.countDown

/-- R88: `opmode` becomes Master. -/
def execSelMaster (s : State) : Host.Outcome State Fault Refusal :=
  .next ((s.setPhase .ctrlIdle).emitDisp .ctrlScreen)

/-- R89: `opmode` becomes Slave, for ever. -/
def execSelSlave (s : State) : Host.Outcome State Fault Refusal :=
  .next ((s.setPhase .slave).emitDisp .slaveScreen)

/-- R83: steps to itself for ever; no register is written, no event emitted. -/
def execSlaveWait (s : State) : Host.Outcome State Fault Refusal := .next s

end Sys2Proof.Machine
end

