-- ==== Sys2Proof/Machine/Mode.lean ====
section
/-! DEFINITION. The Adjustment Mode Toggle: the C-slot operations of a press in CTRL_IDLE and of CTRL_DB
(41_adjust_mode_toggle.md). -/

namespace Sys2Proof.Machine

/-- R19, R72: `1 - adj_mode`. -/
def toggleMode : AdjMode → AdjMode
  | .fine => .coarse
  | .coarse => .fine

/-- R70: the toggle's settle interval starts. -/
def execModePress (s : State) : Host.Outcome State Fault Refusal :=
  .next ((s.startDelay s.cfg.tDebounce).setPhase .ctrlDb)

/-- R71. -/
def execModeDbWait (s : State) : Host.Outcome State Fault Refusal := .next s.countDown

/-- R72: the flip, whatever the button does now. -/
def execModeToggle (s : State) : Host.Outcome State Fault Refusal :=
  .next (((s.setAdjMode (toggleMode s.adjMode)).setPhase .ctrlIdle).emitDisp .modeLabel)

end Sys2Proof.Machine
end

