-- ==== Sys2Proof/Machine/Ramp.lean ====
section
/-! DEFINITION. The Motor Ramp Controller: the C-slot operations of CTRL_IDLE, RAMP, HOLD and SETTLE
(44_ramp_controller.md). -/

namespace Sys2Proof.Machine

/-- R91: no register is written by the C slot. -/
def execIdlePoll (s : State) : Host.Outcome State Fault Refusal := .next s

/-- R92: the enable and the write of step 0 are one operation. -/
def execRampStart (s : State) : Host.Outcome State Fault Refusal :=
  .next ((((((s.setPwmEn true).setRampI 0).writeOffset 0).startDelay s.cfg.tRamp).setPhase .ramp).emitDisp .progress)

/-- R93: a zero target is a safe-stop without a single write. -/
def execRampZero (s : State) : Host.Outcome State Fault Refusal := .next s.safeStop

/-- R94: between two steps no input is looked at. -/
def execRampWait (s : State) : Host.Outcome State Fault Refusal := .next s.countDown

/-- R95: step k = `ramp_i` + 1 is written at `sgn(target)·k`. -/
def execRampStep (s : State) : Host.Outcome State Fault Refusal :=
  .next ((((s.setRampI (s.rampI + 1)).writeOffset (targetSign s * ((s.rampI + 1 : Nat) : Int))).startDelay
    s.cfg.tRamp).emitDisp .progress)

/-- R96: only `phase` is written. -/
def execRampDone (s : State) : Host.Outcome State Fault Refusal :=
  .next ((s.setPhase .hold).emitDisp .ready)

/-- R97: the dead-man was released; the step of this tick is not written. -/
def execRampAbort (s : State) : Host.Outcome State Fault Refusal := .next s.safeStop

/-- R98: the pair of the whole target is written again. -/
def execHoldWrite (s : State) : Host.Outcome State Fault Refusal := .next (s.writeOffset s.target)

/-- R99: one released sample is enough. -/
def execHoldRelease (s : State) : Host.Outcome State Fault Refusal := .next s.safeStop

/-- R101. -/
def execSettleWait (s : State) : Host.Outcome State Fault Refusal := .next s.countDown

/-- R102: back to Idle; nothing is re-enabled. -/
def execSettleDone (s : State) : Host.Outcome State Fault Refusal := .next s.settleReturn

end Sys2Proof.Machine
end

