-- ==== Sys2Proof/Machine/Dispatch.lean ====
section
/-! DEFINITION. One arm per operation: which meaning runs it. -/

namespace Sys2Proof.Machine

def exec (i : Instr) (s : State) : Host.Outcome State Fault Refusal :=
  match i with
  | .encHold => Sys2Proof.Machine.execEncHold s
  | .encLow => Sys2Proof.Machine.execEncLow s
  | .encHigh => Sys2Proof.Machine.execEncHigh s
  | .encFall => Sys2Proof.Machine.execEncFall s
  | .encIncM => Sys2Proof.Machine.execEncIncM s
  | .encDecM => Sys2Proof.Machine.execEncDecM s
  | .encIncT => Sys2Proof.Machine.execEncIncT s
  | .encDecT => Sys2Proof.Machine.execEncDecT s
  | .menuPoll => Sys2Proof.Machine.execMenuPoll s
  | .menuPress => Sys2Proof.Machine.execMenuPress s
  | .menuDbWait => Sys2Proof.Machine.execMenuDbWait s
  | .selMaster => Sys2Proof.Machine.execSelMaster s
  | .selSlave => Sys2Proof.Machine.execSelSlave s
  | .modePress => Sys2Proof.Machine.execModePress s
  | .idlePoll => Sys2Proof.Machine.execIdlePoll s
  | .rampStart => Sys2Proof.Machine.execRampStart s
  | .rampZero => Sys2Proof.Machine.execRampZero s
  | .modeDbWait => Sys2Proof.Machine.execModeDbWait s
  | .modeToggle => Sys2Proof.Machine.execModeToggle s
  | .rampWait => Sys2Proof.Machine.execRampWait s
  | .rampAbort => Sys2Proof.Machine.execRampAbort s
  | .rampStep => Sys2Proof.Machine.execRampStep s
  | .rampDone => Sys2Proof.Machine.execRampDone s
  | .holdWrite => Sys2Proof.Machine.execHoldWrite s
  | .holdRelease => Sys2Proof.Machine.execHoldRelease s
  | .settleWait => Sys2Proof.Machine.execSettleWait s
  | .settleDone => Sys2Proof.Machine.execSettleDone s
  | .slaveWait => Sys2Proof.Machine.execSlaveWait s

end Sys2Proof.Machine
end

