-- ==== Sys2Proof/Machine/Tick.lean ====
section
/-! DEFINITION. One tick (R105): sample, E slot, C slot, commit. -/

namespace Sys2Proof.Machine

/-- The operation the E slot selects (R50). -/
def selectE (s : State) (iw : InputWord) : Instr := decodeE (eWord s iw)

/-- The operation the C slot selects (R51), from the state the E slot left. -/
def selectC (s : State) (iw : InputWord) : Instr := decodeC (cWord s iw)

/-- The C slot, on the state the E slot left. -/
def slotC (iw : InputWord) (s : State) : Host.Outcome State Fault Refusal :=
  exec (selectC s iw) s

/-- R105 on the sample `iw`: the E slot's operation, then the C slot's on what it left. -/
def tick (iw : InputWord) (s : State) : Host.Outcome State Fault Refusal :=
  andThen (exec (selectE s.takeEdge iw) s.takeEdge) (slotC iw)

/-- R126: an edge with `rst` low is a tick, an edge with `rst` high a reset. -/
def clockEdge (e : Edge) (s : State) : Host.Outcome State Fault Refusal :=
  match e.rst with
  | true => .next s.resetEdge
  | false => tick e.iw s

end Sys2Proof.Machine
end

