-- ==== Sys2Proof/Machine/Step.lean ====
section
/-! DEFINITION. One rising edge of `clk` (R5, R105, R126). -/

namespace Sys2Proof.Machine

/-- One clock edge: the environment's next edge is sampled and is a reset or a tick. -/
def step (s : State) : Host.Outcome State Fault Refusal := clockEdge s.nextEdge s

/-- The state s with the given table word the one the very next step dispatches on (log entry 9). -/
def State.withFetchWord (s : State) (nbits w : Nat) : State := s.placeWord nbits w

end Sys2Proof.Machine
end

