-- ==== Sys2Proof/Machine/Ports.lean ====
section
/-! DEFINITION. The views of a state an observer has: the operating mode (R21), the PWM pair (R22), the output pins
(R33). Nothing in the block reads them back. -/

namespace Sys2Proof.Machine

/-- R21: the source's OperatingMode, a function of `phase`. -/
def opModeOf : Phase → OpMode
  | .menu => .unselected
  | .menuDb => .unselected
  | .ctrlIdle => .master
  | .ctrlDb => .master
  | .ramp => .master
  | .hold => .master
  | .settle => .master
  | .slave => .slave

/-- `opmode` of a state (R21). -/
def State.opMode (s : State) : OpMode := opModeOf s.phase

/-- R22: the PWMOutputPair as an observer sees it after a tick. -/
def State.pwmView (s : State) : Option (Int × Int) :=
  if s.pwmEn then some (s.pulseA, s.pulseB) else none

/-- The output pins during the tick after the state was left (R33), each of its width. -/
structure Ports where
  pwm_en : BitVec 1
  pulse_a : BitVec 11
  pulse_b : BitVec 11
  pwm_wr : BitVec 1
  opmode : BitVec 2
  adj_mode : BitVec 1
  target : BitVec 8
  menu_idx : BitVec 1
  ramp_i : BitVec 7
  disp_req : BitVec 7
  deriving DecidableEq, Repr

/-- R33, R36: bit 0 the least significant, `target` two's complement, the others plain unsigned. -/
def State.ports (s : State) : Ports where
  pwm_en := BitVec.ofBool s.pwmEn
  pulse_a := BitVec.ofInt 11 s.pulseA
  pulse_b := BitVec.ofInt 11 s.pulseB
  pwm_wr := BitVec.ofBool s.wr.isSome
  opmode := s.opMode.code
  adj_mode := s.adjMode.code
  target := BitVec.ofInt 8 s.target
  menu_idx := BitVec.ofNat 1 s.menuIdx.val
  ramp_i := BitVec.ofNat 7 s.rampI
  disp_req := s.disp

end Sys2Proof.Machine
end

