-- ==== Sys2Proof/Machine/Trace.lean ====
section
/-! DEFINITION. The trace of a run (R59): what one step sampled, built and executed; and a stimulus placed on the inputs
(R57). -/

namespace Sys2Proof.Machine

/-- The E-slot word of the next step (R47). -/
def State.nextEW (s : State) : EWord := eWord s.takeEdge s.nextEdge.iw

/-- The E-slot operation of the next step. -/
def State.nextE (s : State) : Instr := decodeE s.nextEW

/-- The state the E slot of the next step leaves to its C slot; s itself with the edge taken where that slot stops. -/
def State.afterE (s : State) : State :=
  match exec s.nextE s.takeEdge with
  | .next s1 => s1
  | .fault _ => s.takeEdge
  | .refused _ => s.takeEdge

/-- The C-slot word of the next step (R48). -/
def State.nextCW (s : State) : CWord := cWord s.afterE s.nextEdge.iw

/-- The C-slot operation of the next step. -/
def State.nextC (s : State) : Instr := decodeC s.nextCW

/-- The two operations of the next step (R45). -/
def State.nextOps (s : State) : TickOps := { e := s.nextE, c := s.nextC }

/-- The first columns of a row of R59's table; the state the tick leaves and its events are in the next state. -/
structure TraceRow where
  iw : InputWord
  ew : EWord
  eop : Instr
  cw : CWord
  cop : Instr
  deriving DecidableEq, Repr

/-- R59 for the next step. -/
def State.traceRow (s : State) : TraceRow :=
  { iw := s.nextEdge.iw, ew := s.nextEW, eop := s.nextE, cw := s.nextCW, cop := s.nextC }

/-- The stimulus ts is what the environment applies next (R57). -/
def State.withStimulus (s : State) (ts : List Stim) : State := { s with inputs := Stim.edges ts }

end Sys2Proof.Machine
end

