-- ==== Sys2Proof/Machine/WholeTick.lean ====
section
/-! DEFINITION. The complete step of R106, written out from its pseudocode and from nothing else of the machine but the
clamp (R76): no table, no decoder, no shared operation. The tick of Machine/Tick.lean is stated equal to it. -/

namespace Sys2Proof.Machine

/-- R106, the E slot. -/
def wholeTickE (iw : InputWord) (s : State) : State :=
  let a := iw.getLsbD 0
  let b := iw.getLsbD 1
  let step : Int := if s.adjMode = .coarse then 10 else 1
  if s.phase = .menu ∨ s.phase = .ctrlIdle then
    if s.lastA = false ∧ a = true then
      let delta : Int := if b then step else -step
      if s.phase = .ctrlIdle then
        { s with target := clamp (s.target + delta) (-100) 100, disp := s.disp ||| 0b0000100, lastA := a }
      else
        { s with menuIdx := Fin.ofNat 2 (clamp ((s.menuIdx.val : Int) + delta) 0 1).toNat,
                 disp := s.disp ||| 0b0000001, lastA := a }
    else { s with lastA := a }
  else s

/-- R106, the C slot. -/
def wholeTickC (iw : InputWord) (s : State) : State :=
  let sel : Bool := !iw.getLsbD 2
  let dm : Bool := !iw.getLsbD 3
  let td := s.cfg.tDebounce
  let tr := s.cfg.tRamp
  match s.phase with
  | .menu => if sel then { s with tmr := td - 1, phase := .menuDb } else s
  | .menuDb =>
    if s.tmr ≠ 0 then { s with tmr := s.tmr - 1 }
    else if s.menuIdx = 0 then { s with phase := .ctrlIdle, disp := s.disp ||| 0b0000010 }
    else { s with phase := .slave, disp := s.disp ||| 0b1000000 }
  | .ctrlIdle =>
    if sel then { s with tmr := td - 1, phase := .ctrlDb }
    else if ¬ dm then s
    else if s.target ≠ 0 then
      { s with pwmEn := true, rampI := 0, pulseA := 1500, pulseB := 1500, tmr := tr - 1, phase := .ramp,
               wr := some (1500, 1500), disp := s.disp ||| 0b0010000 }
    else { s with pwmEn := false, tmr := td - 1, phase := .settle }
  | .ctrlDb =>
    if s.tmr ≠ 0 then { s with tmr := s.tmr - 1 }
    else { s with adjMode := if s.adjMode = .fine then .coarse else .fine, phase := .ctrlIdle,
                  disp := s.disp ||| 0b0001000 }
  | .ramp =>
    if s.tmr ≠ 0 then { s with tmr := s.tmr - 1 }
    else if ¬ dm then { s with pwmEn := false, tmr := td - 1, phase := .settle }
    else if s.rampI < s.target.natAbs then
      let k := s.rampI + 1
      let off : Int := s.target.sign * (k : Int) * 5
      { s with rampI := k, pulseA := 1500 + off, pulseB := 1500 - off, tmr := tr - 1,
               wr := some (1500 + off, 1500 - off), disp := s.disp ||| 0b0010000 }
    else { s with phase := .hold, disp := s.disp ||| 0b0100000 }
  | .hold =>
    if dm then
      { s with pulseA := 1500 + 5 * s.target, pulseB := 1500 - 5 * s.target,
               wr := some (1500 + 5 * s.target, 1500 - 5 * s.target) }
    else { s with pwmEn := false, tmr := td - 1, phase := .settle }
  | .settle =>
    if s.tmr ≠ 0 then { s with tmr := s.tmr - 1 }
    else { s with phase := .ctrlIdle, disp := s.disp ||| 0b0000010 }
  | .slave => s

/-- R106: `Tick(state, IW)`. -/
def wholeTick (iw : InputWord) (s : State) : State := wholeTickC iw (wholeTickE iw s)

end Sys2Proof.Machine
end

