-- ==== Sys2Proof/Safety.lean ====
section
/-! DEFINITION. The terms claims are stated in: the invariants of the reachable states (R24), runs (R111), premises on the
input sequence, and the count of `wr` events (R109). -/

namespace Sys2Proof.Machine

/-- The invariants of R24, item by item, with the pair's range (R15) and the step counter's (R13). -/
structure Inv (s : State) : Prop where
  /-- item 1; the cursor's half of it holds by its type. -/
  target_range : -100 ≤ s.target ∧ s.target ≤ 100
  /-- item 2. -/
  enabled_iff : s.pwmEn = true ↔ s.phase = .ramp ∨ s.phase = .hold
  /-- item 3. -/
  timer_idle : s.phase = .menu ∨ s.phase = .ctrlIdle ∨ s.phase = .hold ∨ s.phase = .slave → s.tmr = 0
  /-- item 4, the settle interval. -/
  timer_settle : s.phase = .menuDb ∨ s.phase = .ctrlDb ∨ s.phase = .settle → s.tmr ≤ s.cfg.tDebounce - 1
  /-- item 4, the pacing interval. -/
  timer_ramp : s.phase = .ramp → s.tmr ≤ s.cfg.tRamp - 1
  /-- item 5. -/
  ramp_count : s.phase = .ramp ∨ s.phase = .hold → s.target ≠ 0 ∧ s.rampI ≤ s.target.natAbs
  /-- item 5, in `HOLD`. -/
  hold_count : s.phase = .hold → s.rampI = s.target.natAbs
  /-- item 6. -/
  ramp_pair : s.phase = .ramp →
    s.pulseA = 1500 + s.target.sign * 5 * s.rampI ∧ s.pulseB = 1500 - s.target.sign * 5 * s.rampI
  /-- item 7. -/
  hold_pair : s.phase = .hold → s.pulseA = 1500 + 5 * s.target ∧ s.pulseB = 1500 - 5 * s.target
  /-- item 8. -/
  mirror : s.pulseA + s.pulseB = 3000
  /-- item 9. -/
  menu_state : s.phase = .menu ∨ s.phase = .menuDb → s.target = 0 ∧ s.adjMode = .fine ∧ s.pwmEn = false
  /-- item 10. -/
  slave_state : s.phase = .slave → s.target = 0 ∧ s.adjMode = .fine ∧ s.pwmEn = false ∧ s.menuIdx = 1
  /-- R15. -/
  pair_range : 1000 ≤ s.pulseA ∧ s.pulseA ≤ 2000 ∧ 1000 ≤ s.pulseB ∧ s.pulseB ≤ 2000
  /-- R13. -/
  count_range : s.rampI ≤ 100

/-- The run from s leads after n clock edges to t (R111). -/
def State.RunsTo (s : State) (n : Nat) (t : State) : Prop :=
  Host.Core.run Sys2Proof.core n s = .next t

/-- None of the next n clock edges is a reset: they are n ticks (R126). -/
def State.NoReset (s : State) (n : Nat) : Prop :=
  ∀ j < n, (s.edgeAt j).rst = false

/-- The number of `wr` events of the next n clock edges (R109). -/
def State.wrCount : Nat → State → Nat
  | 0, _ => 0
  | n + 1, s =>
    match step s with
    | .next t => (if t.wr.isSome then 1 else 0) + State.wrCount n t
    | .fault _ => 0
    | .refused _ => 0

/-- The operations that start a delay, the phase it blocks and its length in ticks (R121). -/
def delayOf (c : Config) : Instr → Option (Phase × Nat)
  | .menuPress => some (.menuDb, c.tDebounce)
  | .modePress => some (.ctrlDb, c.tDebounce)
  | .rampStart => some (.ramp, c.tRamp)
  | .rampStep => some (.ramp, c.tRamp)
  | .rampZero => some (.settle, c.tDebounce)
  | .rampAbort => some (.settle, c.tDebounce)
  | .holdRelease => some (.settle, c.tDebounce)
  | _ => none

/-- The waiting operation and the completing operations of a blocking phase (R121). -/
def waitOf : Phase → Option (Instr × List Instr)
  | .menuDb => some (.menuDbWait, [.selMaster, .selSlave])
  | .ctrlDb => some (.modeDbWait, [.modeToggle])
  | .ramp => some (.rampWait, [.rampStep, .rampDone, .rampAbort])
  | .settle => some (.settleWait, [.settleDone])
  | _ => none

end Sys2Proof.Machine
end

