-- ==== Sys2Proof/Certificates/Slice0/Obligations.lean ====
section
/-! DEFINITION. The statements for the provers. A docstring names what of the spec a statement formalises; "derived" says
that the spec marks the passage as derived from other rules or as its own decision. -/

open Sys2Proof Sys2Proof.Machine

/-! ## What each operation does: its result and, by equality of states, its frame -/

/-- R61 to R64 (40_encoder_decoder.md section 2): the operations of the E slot that report no event complete in every
state; `ENC_HOLD` writes nothing, the three others write `lastA` and nothing else, and emit nothing. -/
def Obligations.EncoderOperationsWithoutEvent : Prop :=
  ∀ s : State,
    exec .encHold s = .next s ∧
    exec .encLow s = .next { s with lastA := false } ∧
    exec .encHigh s = .next { s with lastA := true } ∧
    exec .encFall s = .next { s with lastA := false }

/-- R65, R66 (40_encoder_decoder.md section 2, derived there from the clamp): an increment leaves the cursor at 1, a
decrement at 0, whatever the step size and the cursor were; `lastA` is set and MENU_CURSOR (bit 0) requested. -/
def Obligations.MenuCursorStepsSaturate : Prop :=
  ∀ s : State,
    exec .encIncM s = .next { s with menuIdx := 1, lastA := true, disp := s.disp ||| 0b0000001 } ∧
    exec .encDecM s = .next { s with menuIdx := 0, lastA := true, disp := s.disp ||| 0b0000001 }

/-- R67, R68: the encodings, and in every state the clamped step, `lastA <- 1` and `emit disp(VALUE)` (bit 2); the C slot
of the same tick sees the new target in `t0`. -/
def Obligations.TargetStepsClampAndReport : Prop :=
  (∀ w : EWord, (decodeE w = .encIncT ↔ w = 0b11011) ∧ (decodeE w = .encDecT ↔ w = 0b11010)) ∧
  (∀ s : State,
    exec .encIncT s = .next { s with
      target := clamp (s.target + (if s.adjMode = .coarse then 10 else 1)) (-100) 100,
      lastA := true, disp := s.disp ||| 0b0000100 } ∧
    exec .encDecT s = .next { s with
      target := clamp (s.target - (if s.adjMode = .coarse then 10 else 1)) (-100) 100,
      lastA := true, disp := s.disp ||| 0b0000100 }) ∧
  (∀ s : State, s.nextE = .encIncT ∨ s.nextE = .encDecT →
    (s.nextCW.getLsbD 2 = true ↔ s.afterE.target = 0))

/-- R70 to R72 (41_adjust_mode_toggle.md section 2): the toggle's three operations. The wait is stated where its
encoding selects it, `tmr` not 0. -/
def Obligations.ModeToggleOperations : Prop :=
  ∀ s : State,
    exec .modePress s = .next { s with tmr := s.cfg.tDebounce - 1, phase := .ctrlDb } ∧
    (∀ n, s.tmr = n + 1 → exec .modeDbWait s = .next { s with tmr := n }) ∧
    exec .modeToggle s = .next { s with
      adjMode := (if s.adjMode = .fine then .coarse else .fine), phase := .ctrlIdle,
      disp := s.disp ||| 0b0001000 }

/-- R85, R87 to R89 (43_menu_mode.md section 2): the menu's operations, but for the one that writes nothing. -/
def Obligations.MenuSelectionOperations : Prop :=
  ∀ s : State,
    exec .menuPress s = .next { s with tmr := s.cfg.tDebounce - 1, phase := .menuDb } ∧
    (∀ n, s.tmr = n + 1 → exec .menuDbWait s = .next { s with tmr := n }) ∧
    exec .selMaster s = .next { s with phase := .ctrlIdle, disp := s.disp ||| 0b0000010 } ∧
    exec .selSlave s = .next { s with phase := .slave, disp := s.disp ||| 0b1000000 }

/-- R84, R91: with nothing pressed the C slot of a polling phase writes no register, whatever the dead-man (menu), the
target, the timer and the count are; on the menu and in `CTRL_IDLE` the outputs are disabled (in the states of R24). -/
def Obligations.PollingTicksWriteNothing : Prop :=
  (∀ w : CWord, (decodeC w = .menuPoll ↔ w &&& 0b111010000 = 0b000000000) ∧
    (decodeC w = .idlePoll ↔ w &&& 0b111011000 = 0b010000000)) ∧
  (∀ s : State, exec .menuPoll s = .next s ∧ exec .idlePoll s = .next s) ∧
  (∀ s : State, Inv s → s.phase = .menu ∨ s.phase = .menuDb ∨ s.phase = .ctrlIdle → s.pwmEn = false)

/-- R92 (44_ramp_controller.md section 2): the enable, step 0, the pacing delay and the two events are one operation. -/
def Obligations.RampStartEnablesAtNeutral : Prop :=
  ∀ s : State,
    exec .rampStart s = .next { s with
      pwmEn := true, rampI := 0, pulseA := 1500, pulseB := 1500, tmr := s.cfg.tRamp - 1, phase := .ramp,
      wr := some (1500, 1500), disp := s.disp ||| 0b0010000 }

/-- R93, R97, R99 and R117 (60_exceptions.md section 4, derived there): the safe-stop is the same three writes in each of
its operations; nothing is saved, nothing else is changed, no pair is written. -/
def Obligations.SafeStopEntry : Prop :=
  ∀ s : State, ∀ i ∈ [Instr.rampZero, Instr.rampAbort, Instr.holdRelease],
    exec i s = .next { s with pwmEn := false, tmr := s.cfg.tDebounce - 1, phase := .settle }

/-- R94 to R96 (44_ramp_controller.md section 2): waiting, stepping and the end of the ramp. A step writes index
`ramp_i + 1` at 5 microseconds a count, channel B mirrored. -/
def Obligations.RampRunningOperations : Prop :=
  ∀ s : State,
    (∀ n, s.tmr = n + 1 → exec .rampWait s = .next { s with tmr := n }) ∧
    (∀ off : Int, off = s.target.sign * ((s.rampI : Int) + 1) * 5 →
      exec .rampStep s = .next { s with
        rampI := s.rampI + 1, pulseA := 1500 + off, pulseB := 1500 - off, tmr := s.cfg.tRamp - 1,
        wr := some (1500 + off, 1500 - off), disp := s.disp ||| 0b0010000 }) ∧
    exec .rampDone s = .next { s with phase := .hold, disp := s.disp ||| 0b0100000 }

/-- R98, R101, R102 (44_ramp_controller.md section 2): the hold rewrite, the settle wait and the return to Idle. -/
def Obligations.HoldAndSettleOperations : Prop :=
  ∀ s : State,
    exec .holdWrite s = .next { s with
      pulseA := 1500 + 5 * s.target, pulseB := 1500 - 5 * s.target,
      wr := some (1500 + 5 * s.target, 1500 - 5 * s.target) } ∧
    (∀ n, s.tmr = n + 1 → exec .settleWait s = .next { s with tmr := n }) ∧
    exec .settleDone s = .next { s with phase := .ctrlIdle, disp := s.disp ||| 0b0000010 }

/-! ## The arithmetic -/

/-- R76 (42_speed_value_model.md section 1): the clamp saturates, and on the block's operands an 8-bit adder in front
of it gives the same sum. -/
def Obligations.ClampSaturatesWithoutWrap : Prop :=
  (∀ v lo hi : Int, lo ≤ hi →
    (v < lo → clamp v lo hi = lo) ∧ (hi < v → clamp v lo hi = hi) ∧ (lo ≤ v → v ≤ hi → clamp v lo hi = v)) ∧
  (∀ (t : Int) (m : AdjMode), -100 ≤ t → t ≤ 100 →
    (BitVec.ofInt 8 t + BitVec.ofInt 8 (stepSize m)).toInt = t + stepSize m ∧
    (BitVec.ofInt 8 t - BitVec.ofInt 8 (stepSize m)).toInt = t - stepSize m)

/-- R77, R78: the step size of a mode; the exact results of the two writers of `target`; and no operation takes
`target` out of -100..100. -/
def Obligations.TargetLaw : Prop :=
  stepSize .fine = 1 ∧ stepSize .coarse = 10 ∧ AdjMode.code .fine = 0 ∧ AdjMode.code .coarse = 1 ∧
  (∀ s : State, -100 ≤ s.target → s.target ≤ 100 →
    (∃ t, exec .encIncT s = .next t ∧ t.target = min (s.target + stepSize s.adjMode) 100) ∧
    (∃ t, exec .encDecT s = .next t ∧ t.target = max (s.target - stepSize s.adjMode) (-100)) ∧
    (∀ (i : Instr) (t : State), exec i s = .next t → -100 ≤ t.target ∧ t.target ≤ 100))

/-- R79: the pulse mapping, the offset the ramp and the hold use, and the range that follows from the clamp alone. -/
def Obligations.PulseMapping : Prop :=
  (∀ n : Int, pulseAOf n = n * 5 + 1500 ∧ pulseBOf n = pulseAOf (-n) ∧ pulseBOf n = 1500 - 5 * n ∧
    (-100 ≤ n → n ≤ 100 → 1000 ≤ pulseAOf n ∧ pulseAOf n ≤ 2000 ∧ 1000 ≤ pulseBOf n ∧ pulseBOf n ≤ 2000)) ∧
  (∀ s : State,
    (∃ t, exec .rampStep s = .next t ∧
      t.pulseA = pulseAOf (s.target.sign * t.rampI) ∧ t.pulseB = pulseBOf (s.target.sign * t.rampI) ∧
      t.rampI = s.rampI + 1) ∧
    (∃ t, exec .holdWrite s = .next t ∧ t.pulseA = pulseAOf s.target ∧ t.pulseB = pulseBOf s.target))

/-! ## The registers -/

/-- R10 (10_state.md section 1, the column "Written by"): an operation not listed for a register leaves it unchanged;
and no operation touches the build, the environment's edges or their count (the model's own fields, log entries 2 and
3). -/
def Obligations.RegisterWriters : Prop :=
  ∀ (i : Instr) (s t : State), exec i s = .next t →
    (i ∉ [Instr.menuPress, .selMaster, .selSlave, .modePress, .modeToggle, .rampStart, .rampZero, .rampAbort,
      .rampDone, .holdRelease, .settleDone] → t.phase = s.phase) ∧
    (i.slot = .C ∨ i = .encHold → t.lastA = s.lastA) ∧
    (i ∉ [Instr.encIncM, .encDecM] → t.menuIdx = s.menuIdx) ∧
    (i ≠ .modeToggle → t.adjMode = s.adjMode) ∧
    (i ∉ [Instr.encIncT, .encDecT] → t.target = s.target) ∧
    (i ∉ [Instr.rampStart, .rampStep] → t.rampI = s.rampI) ∧
    (i ∉ [Instr.menuPress, .modePress, .rampStart, .rampStep, .rampZero, .rampAbort, .holdRelease, .menuDbWait,
      .modeDbWait, .rampWait, .settleWait] → t.tmr = s.tmr) ∧
    (i ∉ [Instr.rampStart, .rampZero, .rampAbort, .holdRelease] → t.pwmEn = s.pwmEn) ∧
    (i ∉ [Instr.rampStart, .rampStep, .holdWrite] →
      t.pulseA = s.pulseA ∧ t.pulseB = s.pulseB ∧ t.wr = s.wr) ∧
    t.cfg = s.cfg ∧ t.inputs = s.inputs ∧ t.edges = s.edges

/-- R20: `pwm_en` is set by `RAMP_START` alone, cleared by the three safe-stops, changed by nothing else; it gates both
channels at once (R22); in the states of R24 it is 1 exactly in `RAMP` and `HOLD`. -/
def Obligations.EnableGate : Prop :=
  (∀ (i : Instr) (s t : State), exec i s = .next t →
    t.pwmEn = (if i = .rampStart then true
      else if i = .rampAbort ∨ i = .holdRelease ∨ i = .rampZero then false else s.pwmEn)) ∧
  (∀ s : State, (s.pwmEn = true → s.pwmView = some (s.pulseA, s.pulseB)) ∧ (s.pwmEn = false → s.pwmView = none)) ∧
  (∀ s : State, Inv s → (s.pwmEn = true ↔ s.phase = .ramp ∨ s.phase = .hold))

/-- R24 (10_state.md section 6, derived there), with the ranges of R13 and R15: the invariants of the reachable states
are kept by every clock edge, reset edges included, from every state that meets them. -/
def Obligations.StepKeepsReachableStateInvariants : Prop :=
  ∀ s t : State, Inv s → step s = .next t → Inv t

/-- R24, R28: every build's state after reset meets the invariants, whatever `LASTA_RESET` and the intervals. -/
def Obligations.ResetMeetsReachableStateInvariants : Prop :=
  (∀ c : Config, Inv (State.resetWith c)) ∧ Inv State.reset

/-- R5, R7, R21, R33, R36, R110 (00_scope.md section 4, 10_state.md section 5, 20_memory.md section 3, 45_tick_step.md
section 4; the widths are the spec's decision D4, the function `opmode` its decision D9): in every state of R24 each of
the ten output ports carries exactly the value of its register, event or view, and the timer fits `TMR_W` bits. -/
def Obligations.RegistersFitTheirPorts : Prop :=
  ∀ s : State, Inv s →
    (s.ports.target.toInt = s.target) ∧
    ((s.ports.pulse_a.toNat : Int) = s.pulseA) ∧ ((s.ports.pulse_b.toNat : Int) = s.pulseB) ∧
    s.ports.ramp_i.toNat = s.rampI ∧ s.ports.menu_idx.toNat = s.menuIdx.val ∧
    (s.ports.pwm_en = 1 ↔ s.pwmEn = true) ∧
    (s.ports.pwm_wr = 1 ↔ ∃ a b, s.wr = some (a, b)) ∧
    (s.ports.opmode =
      match s.phase with
      | .menu | .menuDb => 0
      | .slave => 2
      | .ctrlIdle | .ctrlDb | .ramp | .hold | .settle => 1) ∧
    (s.ports.adj_mode = if s.adjMode = .fine then 0 else 1) ∧
    (∀ j, s.ports.disp_req.getLsbD j = s.disp.getLsbD j) ∧
    s.tmr < 2 ^ s.cfg.tmrW

/-- R28, R126 (70_reset_and_hazards.md section 1; the values and the mechanism are the spec's decisions D12 to D14): a reset edge
loads every register from any state and any pins, emits nothing, and the machine's own reset state has the same
registers. The build, and the environment's edges, are the model's own fields (log entries 2 and 3). -/
def Obligations.ResetEdgeLoadsEveryRegister : Prop :=
  (∀ s : State, s.nextEdge.rst = true →
    step s = .next
      { phase := .menu, lastA := s.cfg.lastAReset, menuIdx := 0, adjMode := .fine, target := 0, rampI := 0, tmr := 0,
        pwmEn := false, pulseA := 1500, pulseB := 1500, wr := none, disp := 0,
        cfg := s.cfg, inputs := s.inputs.tail, edges := s.edges + 1 }) ∧
  State.reset =
    { phase := .menu, lastA := Config.openLastA, menuIdx := 0, adjMode := .fine, target := 0, rampI := 0, tmr := 0,
      pwmEn := false, pulseA := 1500, pulseB := 1500, wr := none, disp := 0,
      cfg := State.reset.cfg, inputs := [], edges := 0 }

/-- R127 (70_reset_and_hazards.md section 1, derived there): the output pins after a reset edge, in particular the
outputs are disabled at that edge whatever phase it fell in. -/
def Obligations.OutputsAfterReset : Prop :=
  ∀ s t : State, s.nextEdge.rst = true → step s = .next t →
    t.ports = { pwm_en := 0, pulse_a := 1500, pulse_b := 1500, pwm_wr := 0, opmode := 0, adj_mode := 0, target := 0,
                menu_idx := 0, ramp_i := 0, disp_req := 0 } ∧
    t.pwmView = none

/-! ## Encoding -/

/-- R50 to R52 (30_encoding.md section 4): every word the encoder gives an operation, whatever its uncompared bits,
decodes to that operation; and every dispatch word is the one its operation encodes with the word's own bits. -/
def Obligations.DecodeEncodeRoundTrip : Prop :=
  (∀ (i : Instr) (fill : BitVec 9), decode (encode i fill) = i) ∧
  (∀ w : EWord, encode (decodeE w) (w.setWidth 9) = .e w) ∧
  (∀ w : CWord, encode (decodeC w) w = .c w)

/-- R53 (30_encoding.md section 5, derived there from R50, R51): exactly one row of the table selects a dispatch word,
the decoder finds it, and the two operations of a tick stand in their own slots. -/
def Obligations.EveryDispatchWordSelectsOneOperation : Prop :=
  (∀ (d : DispatchWord) (i : Instr), i.selectedBy d = true ↔ decode d = i) ∧
  (∀ (ew : EWord) (cw : CWord), (decodeTick ew cw).wf = true)

/-- R47 to R51 (30_encoding.md sections 2 and 4): words written out bit by bit from the operation maps, two or more of
each family. That the decoder refuses a number with a bit above its format (the last two clauses) is the model's choice
(log entry 9). -/
def Obligations.WrittenOutWordsDecode : Prop :=
  decodeE 0b01011 = .encHold ∧ decodeE 0b11001 = .encLow ∧ decodeE 0b10111 = .encHigh ∧ decodeE 0b11100 = .encFall ∧
  decodeE 0b10011 = .encIncM ∧ decodeE 0b11010 = .encDecT ∧
  decodeC 0b000100110 = .menuPoll ∧ decodeC 0b001100111 = .selSlave ∧ decodeC 0b010111000 = .modePress ∧
  decodeC 0b011100000 = .modeToggle ∧ decodeC 0b010101000 = .rampStart ∧ decodeC 0b010101110 = .rampZero ∧
  decodeC 0b100101000 = .rampStep ∧ decodeC 0b100101010 = .rampDone ∧ decodeC 0b101100010 = .holdRelease ∧
  decodeC 0b110101010 = .settleDone ∧ decodeC 0b111111111 = .slaveWait ∧
  decodeTableWord 8 32 = none ∧ decodeTableWord 16 512 = none

/-- The model's own (log entry 9): a table word placed for the next step is the dispatch word that step builds, for
every `EW` and for every `CW` some state gives; the one kind no state gives (`t0` without `ie`) still selects the
word's own operation; and the next edge is a tick. -/
def Obligations.PlacedWordIsTheOneDispatched : Prop :=
  ∀ (s : State) (w : Nat),
    (w < 32 → (s.withFetchWord 8 w).nextEdge.rst = false ∧ (s.withFetchWord 8 w).nextEW = BitVec.ofNat 5 w ∧
      decodeTableWord 8 w = some (s.withFetchWord 8 w).nextE) ∧
    (w < 512 → (s.withFetchWord 16 w).nextEdge.rst = false ∧
      ((BitVec.ofNat 9 w).getLsbD 2 = true → (BitVec.ofNat 9 w).getLsbD 1 = true →
        (s.withFetchWord 16 w).nextCW = BitVec.ofNat 9 w) ∧
      ((BitVec.ofNat 9 w).getLsbD 2 = false → (s.withFetchWord 16 w).nextCW = BitVec.ofNat 9 w) ∧
      decodeTableWord 16 w = some (s.withFetchWord 16 w).nextC)

/-! ## The tick -/

/-- R105 (45_tick_step.md section 1; the slot order is the spec's decision D7): on an edge without reset a step is the
operation `EW` selects on the state at the start of the tick (the edge taken, the last tick's strobes over), then the
operation `CW` selects on what it left; the step is both and nothing more. -/
def Obligations.StepRunsTheDecodedOperations : Prop :=
  ∀ (s s1 s2 : State) (e c : Instr) (iw : InputWord),
    s.nextEdge = { rst := false, iw := iw } →
    decodeE (eWord s iw) = e →
    exec e { s with inputs := s.inputs.tail, edges := s.edges + 1, wr := none, disp := 0 } = .next s1 →
    decodeC (cWord s1 iw) = c → exec c s1 = .next s2 →
    step s = .next s2

/-- R106 (45_tick_step.md section 2, derived there from the operation rules): the step by tables, decoder and
operations is the whole-step pseudocode, from every state and under every input word. -/
def Obligations.StepIsTheWholeTickPseudocode : Prop :=
  ∀ s : State, s.nextEdge.rst = false →
    step s = .next (wholeTick s.nextEdge.iw
      { s with inputs := s.inputs.tail, edges := s.edges + 1, wr := none, disp := 0 })

/-- R113: the step function returns a next state always; and no operation is refused or faults in any state. -/
def Obligations.StepAlwaysReturnsANextState : Prop :=
  (∀ s : State, ∃ t, step s = .next t) ∧
  (∀ (i : Instr) (s : State), ∃ t, exec i s = .next t)

/-- R60: the poll. In a tick that starts in a polling phase the E slot reports an event exactly at a rising edge of A,
with the direction B gives and the current step size, into the phase's own destination, and always ends with
`lastA <- a`. -/
def Obligations.PollContract : Prop :=
  ∀ (s : State) (a b : Bool), s.phase = .menu ∨ s.phase = .ctrlIdle →
    a = s.nextEdge.iw.getLsbD 0 → b = s.nextEdge.iw.getLsbD 1 →
    ∃ t, exec s.nextE s.takeEdge = .next t ∧
      t.lastA = a ∧
      (let delta := if b then stepSize s.adjMode else -stepSize s.adjMode
       if s.lastA = false ∧ a = true then
         (s.phase = .ctrlIdle → t.target = clamp (s.target + delta) (-100) 100 ∧ t.menuIdx = s.menuIdx ∧
           t.disp = 0b0000100) ∧
         (s.phase = .menu → (t.menuIdx.val : Int) = clamp ((s.menuIdx.val : Int) + delta) 0 1 ∧
           t.target = s.target ∧ t.disp = 0b0000001)
       else t.target = s.target ∧ t.menuIdx = s.menuIdx ∧ t.disp = 0) ∧
      { t with target := s.target, menuIdx := s.menuIdx, lastA := s.lastA, disp := 0 } = s.takeEdge

/-- R17 and R69 item (c) (10_state.md section 4, 40_encoder_decoder.md section 3, derived there): after a tick `lastA`
is the tick's sample of A if the tick polled, and what it was if it did not. -/
def Obligations.LastAIsTheLevelOfTheLastPoll : Prop :=
  ∀ s t : State, s.nextEdge.rst = false → step s = .next t →
    t.lastA = (if s.phase = .menu ∨ s.phase = .ctrlIdle then s.nextEdge.iw.getLsbD 0 else s.lastA)

/-- R69 items (e) and (f) (40_encoder_decoder.md section 3, derived there): across a tick the target moves by at most one
step, and only in `CTRL_IDLE`; the E slot writes none of the control unit's registers. -/
def Obligations.TargetMovesByAtMostOneStep : Prop :=
  (∀ s t : State, s.nextEdge.rst = false → -100 ≤ s.target → s.target ≤ 100 → step s = .next t →
    (t.target - s.target).natAbs ≤ (stepSize s.adjMode).natAbs ∧ (t.target - s.target).natAbs ≤ 10 ∧
    (s.phase ≠ .ctrlIdle → t.target = s.target)) ∧
  (∀ (i : Instr) (s t : State), i.slot = .E → exec i s = .next t →
    t.phase = s.phase ∧ t.tmr = s.tmr ∧ t.rampI = s.rampI ∧ t.adjMode = s.adjMode ∧ t.pwmEn = s.pwmEn ∧
    t.pulseA = s.pulseA ∧ t.pulseB = s.pulseB)

/-- R69 item (d) (40_encoder_decoder.md section 3, derived there): between two events there is a poll that saw A LOW.
An event is an E slot that runs one of the four step operations. -/
def Obligations.EventsAreSeparatedByALowPoll : Prop :=
  ∀ (s t u : State) (n : Nat),
    s.nextE ∈ [Instr.encIncM, .encDecM, .encIncT, .encDecT] → step s = .next t →
    State.NoReset s (n + 1) → State.RunsTo t n u →
    u.nextE ∈ [Instr.encIncM, .encDecM, .encIncT, .encDecT] →
    ∃ m v, m < n ∧ State.RunsTo t m v ∧ v.nextE ∈ [Instr.encLow, .encFall] ∧ v.nextEdge.iw.getLsbD 0 = false

/-! ## Inputs -/

/-- R54: an input the operation's pattern does not compare has no effect on the tick's result. The two sampled words
agree where the tick compares them and differ freely elsewhere. -/
def Obligations.UncomparedInputsHaveNoEffect : Prop :=
  ∀ (s : State) (v w : InputWord),
    (s.phase = .menuDb ∨ s.phase = .ctrlDb ∨ s.phase = .settle ∨ s.phase = .slave ∨
      (s.phase = .ramp ∧ s.tmr ≠ 0) → tick v s = tick w s) ∧
    (s.phase = .ramp ∨ s.phase = .hold → v.getLsbD 3 = w.getLsbD 3 → tick v s = tick w s) ∧
    (s.phase = .menu ∨ (s.phase = .ctrlIdle ∧ v.getLsbD 2 = false) → v.getLsbD 2 = w.getLsbD 2 →
      v.getLsbD 1 = w.getLsbD 1 → v.getLsbD 0 = w.getLsbD 0 → tick v s = tick w s) ∧
    (¬ (s.lastA = false ∧ v.getLsbD 0 = true) → v.getLsbD 3 = w.getLsbD 3 → v.getLsbD 2 = w.getLsbD 2 →
      v.getLsbD 0 = w.getLsbD 0 → tick v s = tick w s)

/-- R116 (60_exceptions.md section 3; the order of the polls is the spec's decision D15): which operation runs when several
inputs are asserted in one tick. The zero test is of the target the E slot left. -/
def Obligations.PriorityOfSimultaneousInputs : Prop :=
  ∀ (s : State) (sel dm : Bool), sel = !s.nextEdge.iw.getLsbD 2 → dm = !s.nextEdge.iw.getLsbD 3 →
    (s.phase = .menu → s.nextC = if sel then .menuPress else .menuPoll) ∧
    (s.phase = .ctrlIdle →
      s.nextC = if sel then .modePress else if !dm then .idlePoll
        else if s.afterE.target = 0 then .rampZero else .rampStart) ∧
    (s.phase = .ramp → s.tmr = 0 →
      s.nextC = if !dm then .rampAbort else if s.target.natAbs ≤ s.rampI then .rampDone else .rampStep) ∧
    (s.phase = .hold → s.nextC = if dm then .holdWrite else .holdRelease) ∧
    (s.phase = .menu ∨ s.phase = .ctrlIdle ↔ s.nextE ≠ .encHold)

/-- R129 (70_reset_and_hazards.md section 2; `LASTA_RESET` is open, D13): the first poll compares A with `LASTA_RESET`. With 0
and A resting HIGH it reports an event, B giving the cursor; with 1 and A resting LOW it only falls; with 1 and A HIGH,
or 0 and A LOW, it is steady. -/
def Obligations.FirstPollHazard : Prop :=
  ∀ (s : State) (c : Config), s = { State.resetWith c with inputs := s.inputs, edges := s.edges } →
    (c.lastAReset = false → s.nextEdge.iw.getLsbD 0 = true →
      s.nextE = (if s.nextEdge.iw.getLsbD 1 then .encIncM else .encDecM) ∧
      s.afterE.menuIdx = (if s.nextEdge.iw.getLsbD 1 then 1 else 0)) ∧
    (c.lastAReset = true → s.nextEdge.iw.getLsbD 0 = false → s.nextE = .encFall ∧ s.afterE.menuIdx = 0) ∧
    (c.lastAReset = s.nextEdge.iw.getLsbD 0 → (s.nextE = .encHigh ∨ s.nextE = .encLow) ∧ s.afterE.menuIdx = 0)

/-- R58 (30_encoding.md section 6; the notation is the spec's decision D26): `INC` and `DEC` are one event, at the second tick,
whatever `lastA` was. -/
def Obligations.IncAndDecStimuliAreOneEvent : Prop :=
  ∀ (s : State) (rest : List Edge), s.phase = .ctrlIdle →
    (s.inputs = Stim.edges [.inc] ++ rest →
      ∃ t, State.RunsTo s 2 t ∧ t.target = clamp (s.target + stepSize s.adjMode) (-100) 100 ∧ t.lastA = true ∧
        t.phase = .ctrlIdle ∧ t.disp = 0b0000100 ∧ t.inputs = rest) ∧
    (s.inputs = Stim.edges [.dec] ++ rest →
      ∃ t, State.RunsTo s 2 t ∧ t.target = clamp (s.target - stepSize s.adjMode) (-100) 100 ∧ t.lastA = true ∧
        t.phase = .ctrlIdle ∧ t.disp = 0b0000100 ∧ t.inputs = rest)

/-! ## Control transfer and events -/

/-- R107 (45_tick_step.md section 3, derived there from R106): every arrow the block has, each with its condition;
in every other case a tick leaves `phase` unchanged. -/
def Obligations.PhaseTransitions : Prop :=
  ∀ (s t : State) (sel dm : Bool), s.nextEdge.rst = false → step s = .next t →
    sel = !s.nextEdge.iw.getLsbD 2 → dm = !s.nextEdge.iw.getLsbD 3 →
    t.phase =
      match s.phase with
      | .menu => if sel then .menuDb else .menu
      | .menuDb => if s.tmr = 0 then (if s.menuIdx = 0 then .ctrlIdle else .slave) else .menuDb
      | .ctrlIdle =>
        if sel then .ctrlDb else if dm then (if t.target = 0 then .settle else .ramp) else .ctrlIdle
      | .ctrlDb => if s.tmr = 0 then .ctrlIdle else .ctrlDb
      | .ramp =>
        if s.tmr = 0 then
          (if dm then (if s.target.natAbs ≤ s.rampI then .hold else .ramp) else .settle)
        else .ramp
      | .hold => if dm then .hold else .settle
      | .settle => if s.tmr = 0 then .ctrlIdle else .settle
      | .slave => .slave

/-- R34, R109 (45_tick_step.md section 4, 20_memory.md section 3; the event is the spec's decision D16): a tick emits `wr`
exactly if its C slot runs one of the three writers, with the values it leaves in the pair; without the event the pair
is unchanged; in the states of R24 the outputs are then enabled and the two values sum to 3000. -/
def Obligations.WriteEvents : Prop :=
  ∀ s t : State, s.nextEdge.rst = false → step s = .next t →
    (s.nextC ∈ [Instr.rampStart, .rampStep, .holdWrite] → t.wr = some (t.pulseA, t.pulseB)) ∧
    (s.nextC ∉ [Instr.rampStart, .rampStep, .holdWrite] →
      t.wr = none ∧ t.pulseA = s.pulseA ∧ t.pulseB = s.pulseB) ∧
    (Inv s → ∀ a b, t.wr = some (a, b) → t.pwmEn = true ∧ a + b = 3000)

/-- R110 (45_tick_step.md section 4; the strobes are the spec's decision D23): the redraw requests of a tick, bit by bit; two at
once only as VALUE with PROGRESS. -/
def Obligations.RedrawRequests : Prop :=
  ∀ s t : State, s.nextEdge.rst = false → step s = .next t →
    (t.disp.getLsbD 0 = true ↔ s.nextE ∈ [Instr.encIncM, .encDecM]) ∧
    (t.disp.getLsbD 1 = true ↔ s.nextC ∈ [Instr.selMaster, .settleDone]) ∧
    (t.disp.getLsbD 2 = true ↔ s.nextE ∈ [Instr.encIncT, .encDecT]) ∧
    (t.disp.getLsbD 3 = true ↔ s.nextC = .modeToggle) ∧
    (t.disp.getLsbD 4 = true ↔ s.nextC ∈ [Instr.rampStart, .rampStep]) ∧
    (t.disp.getLsbD 5 = true ↔ s.nextC = .rampDone) ∧
    (t.disp.getLsbD 6 = true ↔ s.nextC = .selSlave) ∧
    (∀ j k, j < k → t.disp.getLsbD j = true → t.disp.getLsbD k = true →
      j = 2 ∧ k = 4 ∧ s.nextC = .rampStart)

/-- R110 (45_tick_step.md section 4): nothing reads the strobes back; a machine that drops them runs the same. -/
def Obligations.StrobesAreNeverReadBack : Prop :=
  ∀ (s t : State) (w : Option (Int × Int)) (d : BitVec 7), step s = .next t →
    step { s with wr := w, disp := d } = .next t

/-- R119 and R142 items (a), (b), (d) (60_exceptions.md section 5, 43_menu_mode.md section 3, derived there): the
operating mode changes only at the end of the menu's settle interval, from Unselected; nothing but reset leads back to
the menu; outside Master no output is enabled and no pair written. -/
def Obligations.OperatingModeIsChosenOnce : Prop :=
  ∀ s t : State, s.nextEdge.rst = false → step s = .next t →
    (t.opMode ≠ s.opMode → s.opMode = .unselected ∧ s.phase = .menuDb ∧ s.tmr = 0 ∧
      t.opMode = (if s.menuIdx = 0 then .master else .slave)) ∧
    (t.phase = .menu ∨ t.phase = .menuDb → s.phase = .menu ∨ s.phase = .menuDb) ∧
    (Inv s → t.opMode ≠ .master → t.pwmEn = false ∧ t.wr = none)

/-- R100 (44_ramp_controller.md section 3, derived there): `target`, and with it its sign and magnitude, is constant in
`RAMP`, `HOLD` and `SETTLE`; so are the other registers of the encoder unit and the adjustment mode. -/
def Obligations.TargetIsFrozenWhileRamping : Prop :=
  ∀ s t : State, s.nextEdge.rst = false → step s = .next t →
    s.phase = .ramp ∨ s.phase = .hold ∨ s.phase = .settle →
    t.target = s.target ∧ t.lastA = s.lastA ∧ t.menuIdx = s.menuIdx ∧ t.adjMode = s.adjMode

/-- R104 item (c) (44_ramp_controller.md section 3, derived there): the outputs become enabled only by `RAMP_START`,
over a pair written in the same tick, with the dead-man held, in Master, towards a target that is not zero. -/
def Obligations.OutputsAreEnabledOnlyByRampStart : Prop :=
  ∀ s t : State, s.nextEdge.rst = false → step s = .next t → s.pwmEn = false → t.pwmEn = true →
    s.nextC = .rampStart ∧ s.phase = .ctrlIdle ∧ s.nextEdge.iw.getLsbD 3 = false ∧
    s.nextEdge.iw.getLsbD 2 = true ∧ s.opMode = .master ∧ t.target ≠ 0 ∧ t.phase = .ramp ∧
    t.pwmView = some (1500, 1500) ∧ t.wr = some (1500, 1500)

/-- R104 item (d) (44_ramp_controller.md section 3, derived there): in the states of R24 a tick that leaves the outputs
enabled moves each channel by exactly 5 microseconds if it runs `RAMP_STEP`, and not at all otherwise, but for the
entry from disabled. -/
def Obligations.CommandedPulseNeverJumps : Prop :=
  ∀ s t : State, Inv s → s.nextEdge.rst = false → step s = .next t → s.pwmEn = true →
    (s.nextC = .rampStep →
      t.pulseA = s.pulseA + 5 * s.target.sign ∧ t.pulseB = s.pulseB - 5 * s.target.sign ∧
      (t.pulseA - s.pulseA).natAbs = 5 ∧ (t.pulseB - s.pulseB).natAbs = 5) ∧
    (s.nextC ≠ .rampStep → t.pulseA = s.pulseA ∧ t.pulseB = s.pulseB)

/-! ## Runs -/

/-- R83: in `SLAVE` every input is ignored for ever; the machine steps to itself, tick after tick, emitting nothing. -/
def Obligations.SlaveStepsToItselfForEver : Prop :=
  (∀ w : CWord, decodeC w = .slaveWait ↔ w &&& 0b111000000 = 0b111000000) ∧
  (∀ s : State, exec .slaveWait s = .next s) ∧
  (∀ (s : State) (n : Nat), s.phase = .slave → State.NoReset s (n + 1) →
    State.RunsTo s (n + 1) { s with
      wr := none, disp := 0, inputs := s.inputs.drop (n + 1), edges := s.edges + (n + 1) })

/-- R14, R121 (60_exceptions.md section 6; the exact interval is the spec's decision D3): an operation that starts a
delay of T ticks at one tick is followed by T - 1 ticks of the phase's waiting operation, and the tick T ticks after it
runs one of the phase's completing operations; meanwhile nothing but the timer changes. -/
def Obligations.TimerLaw : Prop :=
  ∀ (s : State) (p : Phase) (T : Nat) (wait : Instr) (done : List Instr),
    s.cfg.wf = true → delayOf s.cfg s.nextC = some (p, T) → waitOf p = some (wait, done) → State.NoReset s T →
    ∃ u, State.RunsTo s 1 u ∧ u.phase = p ∧
      (∀ j, 1 ≤ j → j < T → ∃ v, State.RunsTo s j v ∧ v.nextC = wait) ∧
      ∃ v, State.RunsTo s T v ∧ v.nextC ∈ done ∧
        { v with tmr := u.tmr, wr := u.wr, disp := u.disp, inputs := u.inputs, edges := u.edges } = u

/-- R103 (44_ramp_controller.md section 3, derived there from R92, R94 to R97): with the dead-man held at every step
tick, step j is written at j times `T_RAMP` ticks after `RAMP_START`, `RAMP_DONE` runs at (m + 1) times `T_RAMP` with
the full target commanded, and exactly m + 1 pairs have been written, m the magnitude of the target. -/
def Obligations.RampReachesTheTargetOnTime : Prop :=
  ∀ (s : State) (m : Nat),
    s.cfg.wf = true → s.nextC = .rampStart → m = s.afterE.target.natAbs →
    State.NoReset s ((m + 1) * s.cfg.tRamp) →
    (∀ j, 1 ≤ j → j ≤ m + 1 → (s.edgeAt (j * s.cfg.tRamp)).iw.getLsbD 3 = false) →
    1 ≤ m ∧
    (∀ j, 1 ≤ j → j ≤ m → ∃ u, State.RunsTo s (j * s.cfg.tRamp) u ∧ u.nextC = .rampStep ∧ u.rampI + 1 = j) ∧
    ∃ u, State.RunsTo s ((m + 1) * s.cfg.tRamp) u ∧ u.nextC = .rampDone ∧ u.rampI = m ∧
      u.target = s.afterE.target ∧ u.pwmView = some (1500 + 5 * u.target, 1500 - 5 * u.target) ∧
      State.wrCount ((m + 1) * s.cfg.tRamp) s = m + 1

/-- R103, the abort (44_ramp_controller.md section 3, derived there): if the first released sample at a step tick is at
the check of step S, `RAMP_ABORT` runs at S times `T_RAMP` ticks after `RAMP_START`, exactly S pairs have been written,
and the count stays at S - 1. -/
def Obligations.RampAbortsAtTheReleasedCheck : Prop :=
  ∀ (s : State) (S : Nat),
    s.cfg.wf = true → s.nextC = .rampStart → 1 ≤ S → S ≤ s.afterE.target.natAbs + 1 →
    State.NoReset s (S * s.cfg.tRamp + 1) →
    (∀ j, 1 ≤ j → j < S → (s.edgeAt (j * s.cfg.tRamp)).iw.getLsbD 3 = false) →
    (s.edgeAt (S * s.cfg.tRamp)).iw.getLsbD 3 = true →
    ∃ u t, State.RunsTo s (S * s.cfg.tRamp) u ∧ u.nextC = .rampAbort ∧ step u = .next t ∧
      t.pwmView = none ∧ t.phase = .settle ∧ t.wr = none ∧ t.rampI + 1 = S ∧
      State.wrCount (S * s.cfg.tRamp + 1) s = S

/-- R98 (44_ramp_controller.md section 2): while the dead-man is held in `HOLD`, every tick rewrites the pair of the
target and nothing else changes, without a limit of time. -/
def Obligations.HoldRewritesUntilReleased : Prop :=
  ∀ (s : State) (n : Nat), s.phase = .hold → State.NoReset s (n + 1) →
    (∀ j, j < n + 1 → (s.edgeAt j).iw.getLsbD 3 = false) →
    State.RunsTo s (n + 1) { s with
      pulseA := 1500 + 5 * s.target, pulseB := 1500 - 5 * s.target,
      wr := some (1500 + 5 * s.target, 1500 - 5 * s.target), disp := 0,
      inputs := s.inputs.drop (n + 1), edges := s.edges + (n + 1) } ∧
    State.wrCount (n + 1) s = n + 1

/-- R104 item (a) (44_ramp_controller.md section 3, derived there): in the states of R24, if the dead-man is released
from this tick on, both outputs are disabled within one pacing interval when the block was in `RAMP`, without another
pair written, and at the end of this very tick when it was in `HOLD`. -/
def Obligations.ReleaseDisablesWithinOneInterval : Prop :=
  ∀ s : State, Inv s → s.cfg.wf = true → State.NoReset s s.cfg.tRamp →
    (∀ j, j < s.cfg.tRamp → (s.edgeAt j).iw.getLsbD 3 = true) →
    (s.phase = .ramp → ∃ k t, 1 ≤ k ∧ k ≤ s.cfg.tRamp ∧ State.RunsTo s k t ∧ t.pwmView = none ∧
      t.phase = .settle ∧ State.wrCount k s = 0) ∧
    (s.phase = .hold → ∃ t, State.RunsTo s 1 t ∧ t.pwmView = none ∧ t.phase = .settle ∧ t.wr = none)

/-- R72 and R74 item (b) (41_adjust_mode_toggle.md section 3, derived there): from the tick that samples a press in
`CTRL_IDLE` the mode is flipped at the end of the tick exactly `T_DEBOUNCE` later, not before; whatever the button and
the dead-man do meanwhile. -/
def Obligations.PressTogglesAfterTheSettleInterval : Prop :=
  ∀ s : State, s.cfg.wf = true → s.phase = .ctrlIdle → s.nextEdge.iw.getLsbD 2 = false →
    State.NoReset s (s.cfg.tDebounce + 1) →
    (∀ j, j ≤ s.cfg.tDebounce → ∃ v, State.RunsTo s j v ∧ v.adjMode = s.adjMode) ∧
    ∃ t, State.RunsTo s (s.cfg.tDebounce + 1) t ∧ t.phase = .ctrlIdle ∧ t.pwmEn = s.pwmEn ∧
      t.adjMode = (if s.adjMode = .fine then .coarse else .fine)

/-- R74 item (a) (41_adjust_mode_toggle.md section 3, derived there): a button held from a `CTRL_IDLE` tick on flips the
mode once every `T_DEBOUNCE` + 1 ticks, for as long as it is held: within period k the mode stays what it was at the
period's start, through its first `T_DEBOUNCE` ticks, and its last tick flips it. -/
def Obligations.HeldSelectFlipsPeriodically : Prop :=
  ∀ (s : State) (n : Nat), s.cfg.wf = true → s.phase = .ctrlIdle →
    State.NoReset s (n * (s.cfg.tDebounce + 1)) →
    (∀ j, j < n * (s.cfg.tDebounce + 1) → (s.edgeAt j).iw.getLsbD 2 = false) →
    (∀ k j, k < n → j ≤ s.cfg.tDebounce →
      ∃ v, State.RunsTo s (k * (s.cfg.tDebounce + 1) + j) v ∧ (v.adjMode = s.adjMode ↔ k % 2 = 0)) ∧
    ∃ t, State.RunsTo s (n * (s.cfg.tDebounce + 1)) t ∧ t.phase = .ctrlIdle ∧
      (t.adjMode = s.adjMode ↔ n % 2 = 0)

/-- R136 (70_reset_and_hazards.md section 3; what follows a zero target is the spec's decision D20): with the dead-man
held, select released, A LOW and a zero target, the block is back in `CTRL_IDLE` every `T_DEBOUNCE` + 1 ticks, is in
`SETTLE` after every tick between, and never has an output enabled or a pair written. -/
def Obligations.ZeroTargetCyclesDisabled : Prop :=
  ∀ (s : State) (n : Nat), s.cfg.wf = true → s.phase = .ctrlIdle → s.target = 0 →
    State.NoReset s (n * (s.cfg.tDebounce + 1)) →
    (∀ j, j < n * (s.cfg.tDebounce + 1) → (s.edgeAt j).iw.getLsbD 3 = false ∧
      (s.edgeAt j).iw.getLsbD 2 = true ∧ (s.edgeAt j).iw.getLsbD 0 = false) →
    (∀ j, 1 ≤ j → j ≤ n * (s.cfg.tDebounce + 1) →
      ∃ v, State.RunsTo s j v ∧ v.pwmEn = false ∧ v.target = 0 ∧
        v.phase = (if j % (s.cfg.tDebounce + 1) = 0 then .ctrlIdle else .settle)) ∧
    State.wrCount (n * (s.cfg.tDebounce + 1)) s = 0

/-- R142 item (c) (43_menu_mode.md section 3, derived there): from reset, whatever the inputs, the control screen cannot be
reached before the end of tick `T_DEBOUNCE`, nor an output enabled before the end of tick `T_DEBOUNCE` + 1. -/
def Obligations.EarliestControlScreenAndEnable : Prop :=
  ∀ (s : State) (c : Config) (n : Nat) (t : State), c.wf = true →
    s = { State.resetWith c with inputs := s.inputs, edges := s.edges } → State.NoReset s n → State.RunsTo s n t →
    (n ≤ c.tDebounce → t.phase = .menu ∨ t.phase = .menuDb) ∧
    (n ≤ c.tDebounce + 1 → t.pwmEn = false)

/-- R130 (70_reset_and_hazards.md section 2, derived there): select held at the first tick after reset is a press; the item
under the cursor after that tick's poll is selected at tick `T_DEBOUNCE`, and the target on entering the control screen is
0, so a dead-man held through power-up cannot enable an output there. -/
def Obligations.SelectHeldAtReset : Prop :=
  ∀ (s : State) (c : Config), c.wf = true →
    s = { State.resetWith c with inputs := s.inputs, edges := s.edges } →
    s.nextEdge.iw.getLsbD 2 = false → State.NoReset s (c.tDebounce + 1) →
    s.nextC = .menuPress ∧
    ∃ u t, State.RunsTo s c.tDebounce u ∧
      u.nextC = (if s.afterE.menuIdx = 0 then .selMaster else .selSlave) ∧
      State.RunsTo s (c.tDebounce + 1) t ∧ t.target = 0 ∧ t.pwmEn = false ∧
      t.phase = (if s.afterE.menuIdx = 0 then .ctrlIdle else .slave)
end

