-- ==== Sys2Proof/Laws/State.lean ====
section
/-! SUPPORT. The small lemmas of the state: what each update leaves in each field. -/

namespace Sys2Proof.Machine.State

@[simp] theorem setPhase_phase (s : State) (p : Phase) : (s.setPhase p).phase = p := rfl
@[simp] theorem setPhase_lastA (s : State) (p : Phase) : (s.setPhase p).lastA = s.lastA := rfl
@[simp] theorem setPhase_menuIdx (s : State) (p : Phase) : (s.setPhase p).menuIdx = s.menuIdx := rfl
@[simp] theorem setPhase_adjMode (s : State) (p : Phase) : (s.setPhase p).adjMode = s.adjMode := rfl
@[simp] theorem setPhase_target (s : State) (p : Phase) : (s.setPhase p).target = s.target := rfl
@[simp] theorem setPhase_rampI (s : State) (p : Phase) : (s.setPhase p).rampI = s.rampI := rfl
@[simp] theorem setPhase_tmr (s : State) (p : Phase) : (s.setPhase p).tmr = s.tmr := rfl
@[simp] theorem setPhase_pwmEn (s : State) (p : Phase) : (s.setPhase p).pwmEn = s.pwmEn := rfl
@[simp] theorem setPhase_pulseA (s : State) (p : Phase) : (s.setPhase p).pulseA = s.pulseA := rfl
@[simp] theorem setPhase_pulseB (s : State) (p : Phase) : (s.setPhase p).pulseB = s.pulseB := rfl
@[simp] theorem setPhase_wr (s : State) (p : Phase) : (s.setPhase p).wr = s.wr := rfl
@[simp] theorem setPhase_disp (s : State) (p : Phase) : (s.setPhase p).disp = s.disp := rfl
@[simp] theorem setPhase_cfg (s : State) (p : Phase) : (s.setPhase p).cfg = s.cfg := rfl
@[simp] theorem setPhase_inputs (s : State) (p : Phase) : (s.setPhase p).inputs = s.inputs := rfl
@[simp] theorem setPhase_edges (s : State) (p : Phase) : (s.setPhase p).edges = s.edges := rfl

@[simp] theorem setLastA_phase (s : State) (a : Bool) : (s.setLastA a).phase = s.phase := rfl
@[simp] theorem setLastA_lastA (s : State) (a : Bool) : (s.setLastA a).lastA = a := rfl
@[simp] theorem setLastA_menuIdx (s : State) (a : Bool) : (s.setLastA a).menuIdx = s.menuIdx := rfl
@[simp] theorem setLastA_adjMode (s : State) (a : Bool) : (s.setLastA a).adjMode = s.adjMode := rfl
@[simp] theorem setLastA_target (s : State) (a : Bool) : (s.setLastA a).target = s.target := rfl
@[simp] theorem setLastA_rampI (s : State) (a : Bool) : (s.setLastA a).rampI = s.rampI := rfl
@[simp] theorem setLastA_tmr (s : State) (a : Bool) : (s.setLastA a).tmr = s.tmr := rfl
@[simp] theorem setLastA_pwmEn (s : State) (a : Bool) : (s.setLastA a).pwmEn = s.pwmEn := rfl
@[simp] theorem setLastA_pulseA (s : State) (a : Bool) : (s.setLastA a).pulseA = s.pulseA := rfl
@[simp] theorem setLastA_pulseB (s : State) (a : Bool) : (s.setLastA a).pulseB = s.pulseB := rfl
@[simp] theorem setLastA_wr (s : State) (a : Bool) : (s.setLastA a).wr = s.wr := rfl
@[simp] theorem setLastA_disp (s : State) (a : Bool) : (s.setLastA a).disp = s.disp := rfl
@[simp] theorem setLastA_cfg (s : State) (a : Bool) : (s.setLastA a).cfg = s.cfg := rfl
@[simp] theorem setLastA_inputs (s : State) (a : Bool) : (s.setLastA a).inputs = s.inputs := rfl
@[simp] theorem setLastA_edges (s : State) (a : Bool) : (s.setLastA a).edges = s.edges := rfl

@[simp] theorem setMenuIdx_phase (s : State) (i : Fin 2) : (s.setMenuIdx i).phase = s.phase := rfl
@[simp] theorem setMenuIdx_lastA (s : State) (i : Fin 2) : (s.setMenuIdx i).lastA = s.lastA := rfl
@[simp] theorem setMenuIdx_menuIdx (s : State) (i : Fin 2) : (s.setMenuIdx i).menuIdx = i := rfl
@[simp] theorem setMenuIdx_adjMode (s : State) (i : Fin 2) : (s.setMenuIdx i).adjMode = s.adjMode := rfl
@[simp] theorem setMenuIdx_target (s : State) (i : Fin 2) : (s.setMenuIdx i).target = s.target := rfl
@[simp] theorem setMenuIdx_rampI (s : State) (i : Fin 2) : (s.setMenuIdx i).rampI = s.rampI := rfl
@[simp] theorem setMenuIdx_tmr (s : State) (i : Fin 2) : (s.setMenuIdx i).tmr = s.tmr := rfl
@[simp] theorem setMenuIdx_pwmEn (s : State) (i : Fin 2) : (s.setMenuIdx i).pwmEn = s.pwmEn := rfl
@[simp] theorem setMenuIdx_pulseA (s : State) (i : Fin 2) : (s.setMenuIdx i).pulseA = s.pulseA := rfl
@[simp] theorem setMenuIdx_pulseB (s : State) (i : Fin 2) : (s.setMenuIdx i).pulseB = s.pulseB := rfl
@[simp] theorem setMenuIdx_wr (s : State) (i : Fin 2) : (s.setMenuIdx i).wr = s.wr := rfl
@[simp] theorem setMenuIdx_disp (s : State) (i : Fin 2) : (s.setMenuIdx i).disp = s.disp := rfl
@[simp] theorem setMenuIdx_cfg (s : State) (i : Fin 2) : (s.setMenuIdx i).cfg = s.cfg := rfl
@[simp] theorem setMenuIdx_inputs (s : State) (i : Fin 2) : (s.setMenuIdx i).inputs = s.inputs := rfl
@[simp] theorem setMenuIdx_edges (s : State) (i : Fin 2) : (s.setMenuIdx i).edges = s.edges := rfl

@[simp] theorem setAdjMode_phase (s : State) (m : AdjMode) : (s.setAdjMode m).phase = s.phase := rfl
@[simp] theorem setAdjMode_lastA (s : State) (m : AdjMode) : (s.setAdjMode m).lastA = s.lastA := rfl
@[simp] theorem setAdjMode_menuIdx (s : State) (m : AdjMode) : (s.setAdjMode m).menuIdx = s.menuIdx := rfl
@[simp] theorem setAdjMode_adjMode (s : State) (m : AdjMode) : (s.setAdjMode m).adjMode = m := rfl
@[simp] theorem setAdjMode_target (s : State) (m : AdjMode) : (s.setAdjMode m).target = s.target := rfl
@[simp] theorem setAdjMode_rampI (s : State) (m : AdjMode) : (s.setAdjMode m).rampI = s.rampI := rfl
@[simp] theorem setAdjMode_tmr (s : State) (m : AdjMode) : (s.setAdjMode m).tmr = s.tmr := rfl
@[simp] theorem setAdjMode_pwmEn (s : State) (m : AdjMode) : (s.setAdjMode m).pwmEn = s.pwmEn := rfl
@[simp] theorem setAdjMode_pulseA (s : State) (m : AdjMode) : (s.setAdjMode m).pulseA = s.pulseA := rfl
@[simp] theorem setAdjMode_pulseB (s : State) (m : AdjMode) : (s.setAdjMode m).pulseB = s.pulseB := rfl
@[simp] theorem setAdjMode_wr (s : State) (m : AdjMode) : (s.setAdjMode m).wr = s.wr := rfl
@[simp] theorem setAdjMode_disp (s : State) (m : AdjMode) : (s.setAdjMode m).disp = s.disp := rfl
@[simp] theorem setAdjMode_cfg (s : State) (m : AdjMode) : (s.setAdjMode m).cfg = s.cfg := rfl
@[simp] theorem setAdjMode_inputs (s : State) (m : AdjMode) : (s.setAdjMode m).inputs = s.inputs := rfl
@[simp] theorem setAdjMode_edges (s : State) (m : AdjMode) : (s.setAdjMode m).edges = s.edges := rfl

@[simp] theorem setTarget_phase (s : State) (v : Int) : (s.setTarget v).phase = s.phase := rfl
@[simp] theorem setTarget_lastA (s : State) (v : Int) : (s.setTarget v).lastA = s.lastA := rfl
@[simp] theorem setTarget_menuIdx (s : State) (v : Int) : (s.setTarget v).menuIdx = s.menuIdx := rfl
@[simp] theorem setTarget_adjMode (s : State) (v : Int) : (s.setTarget v).adjMode = s.adjMode := rfl
@[simp] theorem setTarget_target (s : State) (v : Int) : (s.setTarget v).target = v := rfl
@[simp] theorem setTarget_rampI (s : State) (v : Int) : (s.setTarget v).rampI = s.rampI := rfl
@[simp] theorem setTarget_tmr (s : State) (v : Int) : (s.setTarget v).tmr = s.tmr := rfl
@[simp] theorem setTarget_pwmEn (s : State) (v : Int) : (s.setTarget v).pwmEn = s.pwmEn := rfl
@[simp] theorem setTarget_pulseA (s : State) (v : Int) : (s.setTarget v).pulseA = s.pulseA := rfl
@[simp] theorem setTarget_pulseB (s : State) (v : Int) : (s.setTarget v).pulseB = s.pulseB := rfl
@[simp] theorem setTarget_wr (s : State) (v : Int) : (s.setTarget v).wr = s.wr := rfl
@[simp] theorem setTarget_disp (s : State) (v : Int) : (s.setTarget v).disp = s.disp := rfl
@[simp] theorem setTarget_cfg (s : State) (v : Int) : (s.setTarget v).cfg = s.cfg := rfl
@[simp] theorem setTarget_inputs (s : State) (v : Int) : (s.setTarget v).inputs = s.inputs := rfl
@[simp] theorem setTarget_edges (s : State) (v : Int) : (s.setTarget v).edges = s.edges := rfl

@[simp] theorem setRampI_phase (s : State) (k : Nat) : (s.setRampI k).phase = s.phase := rfl
@[simp] theorem setRampI_lastA (s : State) (k : Nat) : (s.setRampI k).lastA = s.lastA := rfl
@[simp] theorem setRampI_menuIdx (s : State) (k : Nat) : (s.setRampI k).menuIdx = s.menuIdx := rfl
@[simp] theorem setRampI_adjMode (s : State) (k : Nat) : (s.setRampI k).adjMode = s.adjMode := rfl
@[simp] theorem setRampI_target (s : State) (k : Nat) : (s.setRampI k).target = s.target := rfl
@[simp] theorem setRampI_rampI (s : State) (k : Nat) : (s.setRampI k).rampI = k := rfl
@[simp] theorem setRampI_tmr (s : State) (k : Nat) : (s.setRampI k).tmr = s.tmr := rfl
@[simp] theorem setRampI_pwmEn (s : State) (k : Nat) : (s.setRampI k).pwmEn = s.pwmEn := rfl
@[simp] theorem setRampI_pulseA (s : State) (k : Nat) : (s.setRampI k).pulseA = s.pulseA := rfl
@[simp] theorem setRampI_pulseB (s : State) (k : Nat) : (s.setRampI k).pulseB = s.pulseB := rfl
@[simp] theorem setRampI_wr (s : State) (k : Nat) : (s.setRampI k).wr = s.wr := rfl
@[simp] theorem setRampI_disp (s : State) (k : Nat) : (s.setRampI k).disp = s.disp := rfl
@[simp] theorem setRampI_cfg (s : State) (k : Nat) : (s.setRampI k).cfg = s.cfg := rfl
@[simp] theorem setRampI_inputs (s : State) (k : Nat) : (s.setRampI k).inputs = s.inputs := rfl
@[simp] theorem setRampI_edges (s : State) (k : Nat) : (s.setRampI k).edges = s.edges := rfl

@[simp] theorem setTmr_phase (s : State) (n : Nat) : (s.setTmr n).phase = s.phase := rfl
@[simp] theorem setTmr_lastA (s : State) (n : Nat) : (s.setTmr n).lastA = s.lastA := rfl
@[simp] theorem setTmr_menuIdx (s : State) (n : Nat) : (s.setTmr n).menuIdx = s.menuIdx := rfl
@[simp] theorem setTmr_adjMode (s : State) (n : Nat) : (s.setTmr n).adjMode = s.adjMode := rfl
@[simp] theorem setTmr_target (s : State) (n : Nat) : (s.setTmr n).target = s.target := rfl
@[simp] theorem setTmr_rampI (s : State) (n : Nat) : (s.setTmr n).rampI = s.rampI := rfl
@[simp] theorem setTmr_tmr (s : State) (n : Nat) : (s.setTmr n).tmr = n := rfl
@[simp] theorem setTmr_pwmEn (s : State) (n : Nat) : (s.setTmr n).pwmEn = s.pwmEn := rfl
@[simp] theorem setTmr_pulseA (s : State) (n : Nat) : (s.setTmr n).pulseA = s.pulseA := rfl
@[simp] theorem setTmr_pulseB (s : State) (n : Nat) : (s.setTmr n).pulseB = s.pulseB := rfl
@[simp] theorem setTmr_wr (s : State) (n : Nat) : (s.setTmr n).wr = s.wr := rfl
@[simp] theorem setTmr_disp (s : State) (n : Nat) : (s.setTmr n).disp = s.disp := rfl
@[simp] theorem setTmr_cfg (s : State) (n : Nat) : (s.setTmr n).cfg = s.cfg := rfl
@[simp] theorem setTmr_inputs (s : State) (n : Nat) : (s.setTmr n).inputs = s.inputs := rfl
@[simp] theorem setTmr_edges (s : State) (n : Nat) : (s.setTmr n).edges = s.edges := rfl

@[simp] theorem setPwmEn_phase (s : State) (b : Bool) : (s.setPwmEn b).phase = s.phase := rfl
@[simp] theorem setPwmEn_lastA (s : State) (b : Bool) : (s.setPwmEn b).lastA = s.lastA := rfl
@[simp] theorem setPwmEn_menuIdx (s : State) (b : Bool) : (s.setPwmEn b).menuIdx = s.menuIdx := rfl
@[simp] theorem setPwmEn_adjMode (s : State) (b : Bool) : (s.setPwmEn b).adjMode = s.adjMode := rfl
@[simp] theorem setPwmEn_target (s : State) (b : Bool) : (s.setPwmEn b).target = s.target := rfl
@[simp] theorem setPwmEn_rampI (s : State) (b : Bool) : (s.setPwmEn b).rampI = s.rampI := rfl
@[simp] theorem setPwmEn_tmr (s : State) (b : Bool) : (s.setPwmEn b).tmr = s.tmr := rfl
@[simp] theorem setPwmEn_pwmEn (s : State) (b : Bool) : (s.setPwmEn b).pwmEn = b := rfl
@[simp] theorem setPwmEn_pulseA (s : State) (b : Bool) : (s.setPwmEn b).pulseA = s.pulseA := rfl
@[simp] theorem setPwmEn_pulseB (s : State) (b : Bool) : (s.setPwmEn b).pulseB = s.pulseB := rfl
@[simp] theorem setPwmEn_wr (s : State) (b : Bool) : (s.setPwmEn b).wr = s.wr := rfl
@[simp] theorem setPwmEn_disp (s : State) (b : Bool) : (s.setPwmEn b).disp = s.disp := rfl
@[simp] theorem setPwmEn_cfg (s : State) (b : Bool) : (s.setPwmEn b).cfg = s.cfg := rfl
@[simp] theorem setPwmEn_inputs (s : State) (b : Bool) : (s.setPwmEn b).inputs = s.inputs := rfl
@[simp] theorem setPwmEn_edges (s : State) (b : Bool) : (s.setPwmEn b).edges = s.edges := rfl

@[simp] theorem writePair_phase (s : State) (a b : Int) : (s.writePair a b).phase = s.phase := rfl
@[simp] theorem writePair_lastA (s : State) (a b : Int) : (s.writePair a b).lastA = s.lastA := rfl
@[simp] theorem writePair_menuIdx (s : State) (a b : Int) : (s.writePair a b).menuIdx = s.menuIdx := rfl
@[simp] theorem writePair_adjMode (s : State) (a b : Int) : (s.writePair a b).adjMode = s.adjMode := rfl
@[simp] theorem writePair_target (s : State) (a b : Int) : (s.writePair a b).target = s.target := rfl
@[simp] theorem writePair_rampI (s : State) (a b : Int) : (s.writePair a b).rampI = s.rampI := rfl
@[simp] theorem writePair_tmr (s : State) (a b : Int) : (s.writePair a b).tmr = s.tmr := rfl
@[simp] theorem writePair_pwmEn (s : State) (a b : Int) : (s.writePair a b).pwmEn = s.pwmEn := rfl
@[simp] theorem writePair_pulseA (s : State) (a b : Int) : (s.writePair a b).pulseA = a := rfl
@[simp] theorem writePair_pulseB (s : State) (a b : Int) : (s.writePair a b).pulseB = b := rfl
@[simp] theorem writePair_wr (s : State) (a b : Int) : (s.writePair a b).wr = some (a, b) := rfl
@[simp] theorem writePair_disp (s : State) (a b : Int) : (s.writePair a b).disp = s.disp := rfl
@[simp] theorem writePair_cfg (s : State) (a b : Int) : (s.writePair a b).cfg = s.cfg := rfl
@[simp] theorem writePair_inputs (s : State) (a b : Int) : (s.writePair a b).inputs = s.inputs := rfl
@[simp] theorem writePair_edges (s : State) (a b : Int) : (s.writePair a b).edges = s.edges := rfl

@[simp] theorem emitDisp_phase (s : State) (k : DispKind) : (s.emitDisp k).phase = s.phase := rfl
@[simp] theorem emitDisp_lastA (s : State) (k : DispKind) : (s.emitDisp k).lastA = s.lastA := rfl
@[simp] theorem emitDisp_menuIdx (s : State) (k : DispKind) : (s.emitDisp k).menuIdx = s.menuIdx := rfl
@[simp] theorem emitDisp_adjMode (s : State) (k : DispKind) : (s.emitDisp k).adjMode = s.adjMode := rfl
@[simp] theorem emitDisp_target (s : State) (k : DispKind) : (s.emitDisp k).target = s.target := rfl
@[simp] theorem emitDisp_rampI (s : State) (k : DispKind) : (s.emitDisp k).rampI = s.rampI := rfl
@[simp] theorem emitDisp_tmr (s : State) (k : DispKind) : (s.emitDisp k).tmr = s.tmr := rfl
@[simp] theorem emitDisp_pwmEn (s : State) (k : DispKind) : (s.emitDisp k).pwmEn = s.pwmEn := rfl
@[simp] theorem emitDisp_pulseA (s : State) (k : DispKind) : (s.emitDisp k).pulseA = s.pulseA := rfl
@[simp] theorem emitDisp_pulseB (s : State) (k : DispKind) : (s.emitDisp k).pulseB = s.pulseB := rfl
@[simp] theorem emitDisp_wr (s : State) (k : DispKind) : (s.emitDisp k).wr = s.wr := rfl
@[simp] theorem emitDisp_disp (s : State) (k : DispKind) : (s.emitDisp k).disp = s.disp ||| k.mask := rfl
@[simp] theorem emitDisp_cfg (s : State) (k : DispKind) : (s.emitDisp k).cfg = s.cfg := rfl
@[simp] theorem emitDisp_inputs (s : State) (k : DispKind) : (s.emitDisp k).inputs = s.inputs := rfl
@[simp] theorem emitDisp_edges (s : State) (k : DispKind) : (s.emitDisp k).edges = s.edges := rfl

@[simp] theorem takeEdge_phase (s : State) : s.takeEdge.phase = s.phase := rfl
@[simp] theorem takeEdge_lastA (s : State) : s.takeEdge.lastA = s.lastA := rfl
@[simp] theorem takeEdge_menuIdx (s : State) : s.takeEdge.menuIdx = s.menuIdx := rfl
@[simp] theorem takeEdge_adjMode (s : State) : s.takeEdge.adjMode = s.adjMode := rfl
@[simp] theorem takeEdge_target (s : State) : s.takeEdge.target = s.target := rfl
@[simp] theorem takeEdge_rampI (s : State) : s.takeEdge.rampI = s.rampI := rfl
@[simp] theorem takeEdge_tmr (s : State) : s.takeEdge.tmr = s.tmr := rfl
@[simp] theorem takeEdge_pwmEn (s : State) : s.takeEdge.pwmEn = s.pwmEn := rfl
@[simp] theorem takeEdge_pulseA (s : State) : s.takeEdge.pulseA = s.pulseA := rfl
@[simp] theorem takeEdge_pulseB (s : State) : s.takeEdge.pulseB = s.pulseB := rfl
@[simp] theorem takeEdge_wr (s : State) : s.takeEdge.wr = none := rfl
@[simp] theorem takeEdge_disp (s : State) : s.takeEdge.disp = 0 := rfl
@[simp] theorem takeEdge_cfg (s : State) : s.takeEdge.cfg = s.cfg := rfl
@[simp] theorem takeEdge_inputs (s : State) : s.takeEdge.inputs = s.inputs.tail := rfl
@[simp] theorem takeEdge_edges (s : State) : s.takeEdge.edges = s.edges + 1 := rfl

@[simp] theorem resetWith_phase (c : Config) : (State.resetWith c).phase = .menu := rfl
@[simp] theorem resetWith_lastA (c : Config) : (State.resetWith c).lastA = c.lastAReset := rfl
@[simp] theorem resetWith_menuIdx (c : Config) : (State.resetWith c).menuIdx = 0 := rfl
@[simp] theorem resetWith_adjMode (c : Config) : (State.resetWith c).adjMode = .fine := rfl
@[simp] theorem resetWith_target (c : Config) : (State.resetWith c).target = 0 := rfl
@[simp] theorem resetWith_rampI (c : Config) : (State.resetWith c).rampI = 0 := rfl
@[simp] theorem resetWith_tmr (c : Config) : (State.resetWith c).tmr = 0 := rfl
@[simp] theorem resetWith_pwmEn (c : Config) : (State.resetWith c).pwmEn = false := rfl
@[simp] theorem resetWith_pulseA (c : Config) : (State.resetWith c).pulseA = 1500 := rfl
@[simp] theorem resetWith_pulseB (c : Config) : (State.resetWith c).pulseB = 1500 := rfl
@[simp] theorem resetWith_wr (c : Config) : (State.resetWith c).wr = none := rfl
@[simp] theorem resetWith_disp (c : Config) : (State.resetWith c).disp = 0 := rfl
@[simp] theorem resetWith_cfg (c : Config) : (State.resetWith c).cfg = c := rfl
@[simp] theorem resetWith_inputs (c : Config) : (State.resetWith c).inputs = [] := rfl
@[simp] theorem resetWith_edges (c : Config) : (State.resetWith c).edges = 0 := rfl

@[simp] theorem resetEdge_phase (s : State) : s.resetEdge.phase = .menu := rfl
@[simp] theorem resetEdge_lastA (s : State) : s.resetEdge.lastA = s.cfg.lastAReset := rfl
@[simp] theorem resetEdge_menuIdx (s : State) : s.resetEdge.menuIdx = 0 := rfl
@[simp] theorem resetEdge_adjMode (s : State) : s.resetEdge.adjMode = .fine := rfl
@[simp] theorem resetEdge_target (s : State) : s.resetEdge.target = 0 := rfl
@[simp] theorem resetEdge_rampI (s : State) : s.resetEdge.rampI = 0 := rfl
@[simp] theorem resetEdge_tmr (s : State) : s.resetEdge.tmr = 0 := rfl
@[simp] theorem resetEdge_pwmEn (s : State) : s.resetEdge.pwmEn = false := rfl
@[simp] theorem resetEdge_pulseA (s : State) : s.resetEdge.pulseA = 1500 := rfl
@[simp] theorem resetEdge_pulseB (s : State) : s.resetEdge.pulseB = 1500 := rfl
@[simp] theorem resetEdge_wr (s : State) : s.resetEdge.wr = none := rfl
@[simp] theorem resetEdge_disp (s : State) : s.resetEdge.disp = 0 := rfl
@[simp] theorem resetEdge_cfg (s : State) : s.resetEdge.cfg = s.cfg := rfl
@[simp] theorem resetEdge_inputs (s : State) : s.resetEdge.inputs = s.inputs.tail := rfl
@[simp] theorem resetEdge_edges (s : State) : s.resetEdge.edges = s.edges + 1 := rfl

end Sys2Proof.Machine.State
end

