-- ==== Sys2Proof/Laws/Ops.lean ====
section
/-! SUPPORT. One lemma per shared operation: everything it does. -/

namespace Sys2Proof.Machine

theorem clamp_eq_max_min (v lo hi : Int) (h : lo ≤ hi) : clamp v lo hi = max lo (min v hi) := by
  unfold clamp; split <;> [skip; split] <;> omega

theorem clamp_bounds (v lo hi : Int) (h : lo ≤ hi) : lo ≤ clamp v lo hi ∧ clamp v lo hi ≤ hi := by
  unfold clamp; split <;> [skip; split] <;> omega

theorem clamp_of_mem (v lo hi : Int) (h₁ : lo ≤ v) (h₂ : v ≤ hi) : clamp v lo hi = v := by
  unfold clamp; split <;> [skip; split] <;> omega

theorem stepSize_pos (m : AdjMode) : 1 ≤ stepSize m ∧ stepSize m ≤ 10 := by
  cases m <;> simp [stepSize, stepFine, stepCoarse]

/-- R65, R66: an increment leaves 1, a decrement 0, whatever the step and the cursor. -/
theorem menuIdxAfter_up (s : State) (d : Int) (h : 1 ≤ d) : menuIdxAfter s d = 1 := by
  have : clamp ((s.menuIdx.val : Int) + d) menuMin menuMax = 1 := by
    unfold clamp menuMin menuMax; split <;> [skip; split] <;> omega
  simp [menuIdxAfter, this]

theorem menuIdxAfter_down (s : State) (d : Int) (h : d ≤ -1) : menuIdxAfter s d = 0 := by
  have := s.menuIdx.isLt
  have : clamp ((s.menuIdx.val : Int) + d) menuMin menuMax = 0 := by
    unfold clamp menuMin menuMax; split <;> [skip; split] <;> omega
  simp [menuIdxAfter, this]

theorem pulse_mirror (n : Int) : pulseAOf n + pulseBOf n = 3000 := by
  simp only [pulseAOf, pulseBOf, pulseNeutral]; omega

/-- The nth edge after this one is the (n-1)th after the edge has been taken. -/
theorem edgeAt_of_tail (s t : State) (j : Nat) (hi : t.inputs = s.inputs.tail) (he : t.edges = s.edges + 1) :
    t.edgeAt j = s.edgeAt (j + 1) := by
  unfold State.edgeAt
  rw [hi, he, List.getElem?_tail, Nat.add_assoc, Nat.add_comm 1 j]

theorem safeStop_eq (s : State) :
    s.safeStop = { s with pwmEn := false, tmr := s.cfg.tDebounce - 1, phase := .settle } := rfl

theorem settleReturn_eq (s : State) :
    s.settleReturn = { s with phase := .ctrlIdle, disp := s.disp ||| DispKind.ctrlScreen.mask } := rfl

theorem writeOffset_eq (s : State) (n : Int) :
    s.writeOffset n =
      { s with pulseA := pulseAOf n, pulseB := pulseBOf n, wr := some (pulseAOf n, pulseBOf n) } := rfl

theorem startDelay_eq (s : State) (t : Nat) : s.startDelay t = { s with tmr := t - 1 } := rfl

theorem countDown_eq (s : State) : s.countDown = { s with tmr := s.tmr - 1 } := rfl

theorem stepTarget_eq (s : State) (d : Int) :
    s.stepTarget d =
      { s with target := targetAfter s d, lastA := true, disp := s.disp ||| DispKind.value.mask } := rfl

theorem stepMenu_eq (s : State) (d : Int) :
    s.stepMenu d =
      { s with menuIdx := menuIdxAfter s d, lastA := true, disp := s.disp ||| DispKind.menuCursor.mask } := rfl

theorem andThen_next (s : State) (f : State → Host.Outcome State Fault Refusal) : andThen (.next s) f = f s := rfl

end Sys2Proof.Machine
end

