-- ==== Sys2Proof/Laws/PerInstr.lean ====
section
/-! SUPPORT. The per-instruction family EncodingForm: whatever the uncompared bits, an operation's encoding has the
format of its slot, and its own row of the opcode table selects it (R52). -/

namespace Sys2Proof.Laws.EncodingForm

/-- Every word of the encoder is of the operation's slot, and its row's mask and match select it. -/
def Statement (i : Instr) : Prop :=
  ∀ fill : BitVec 9, (encode i fill).slot = i.slot ∧ i.selectedBy (encode i fill) = true

theorem encHold : Statement .encHold := by
  unfold Statement; decide

theorem encLow : Statement .encLow := by
  unfold Statement; decide

theorem encHigh : Statement .encHigh := by
  unfold Statement; decide

theorem encFall : Statement .encFall := by
  unfold Statement; decide

theorem encIncM : Statement .encIncM := by
  unfold Statement; decide

theorem encDecM : Statement .encDecM := by
  unfold Statement; decide

theorem encIncT : Statement .encIncT := by
  unfold Statement; decide

theorem encDecT : Statement .encDecT := by
  unfold Statement; decide

theorem menuPoll : Statement .menuPoll := by
  unfold Statement; decide

theorem menuPress : Statement .menuPress := by
  unfold Statement; decide

theorem menuDbWait : Statement .menuDbWait := by
  unfold Statement; decide

theorem selMaster : Statement .selMaster := by
  unfold Statement; decide

theorem selSlave : Statement .selSlave := by
  unfold Statement; decide

theorem modePress : Statement .modePress := by
  unfold Statement; decide

theorem idlePoll : Statement .idlePoll := by
  unfold Statement; decide

theorem rampStart : Statement .rampStart := by
  unfold Statement; decide

theorem rampZero : Statement .rampZero := by
  unfold Statement; decide

theorem modeDbWait : Statement .modeDbWait := by
  unfold Statement; decide

theorem modeToggle : Statement .modeToggle := by
  unfold Statement; decide

theorem rampWait : Statement .rampWait := by
  unfold Statement; decide

theorem rampAbort : Statement .rampAbort := by
  unfold Statement; decide

theorem rampStep : Statement .rampStep := by
  unfold Statement; decide

theorem rampDone : Statement .rampDone := by
  unfold Statement; decide

theorem holdWrite : Statement .holdWrite := by
  unfold Statement; decide

theorem holdRelease : Statement .holdRelease := by
  unfold Statement; decide

theorem settleWait : Statement .settleWait := by
  unfold Statement; decide

theorem settleDone : Statement .settleDone := by
  unfold Statement; decide

theorem slaveWait : Statement .slaveWait := by
  unfold Statement; decide

end Sys2Proof.Laws.EncodingForm
end

