-- ==== Sys2Proof/Laws/Select.lean ====
section
/-! SUPPORT. Which operation each slot selects, in terms of registers and pins: the dispatch words need not be unfolded
again. -/

namespace Sys2Proof.Machine

/-- The E-slot map on a word built from its fields. -/
theorem decodeE_fields (pe dst la a b : Bool) :
    decodeE (BitVec.ofBool pe ++ BitVec.ofBool dst ++ BitVec.ofBool la ++ BitVec.ofBool a ++ BitVec.ofBool b) =
      bif pe then
        bif la then (bif a then .encHigh else .encFall)
        else bif a then
          (bif dst then (bif b then .encIncT else .encDecT) else (bif b then .encIncM else .encDecM))
        else .encLow
      else .encHold := by
  revert pe dst la a b; decide

/-- The C-slot map on a word built from its fields. -/
theorem decodeC_fields (p : Phase) (tz sel dm t0 ie idx : Bool) :
    decodeC (p.code ++ BitVec.ofBool tz ++ BitVec.ofBool sel ++ BitVec.ofBool dm ++ BitVec.ofBool t0 ++
      BitVec.ofBool ie ++ BitVec.ofBool idx) =
      match p with
      | .menu => bif sel then .menuPress else .menuPoll
      | .menuDb => bif tz then (bif idx then .selSlave else .selMaster) else .menuDbWait
      | .ctrlIdle => bif sel then .modePress else bif dm then (bif t0 then .rampZero else .rampStart) else .idlePoll
      | .ctrlDb => bif tz then .modeToggle else .modeDbWait
      | .ramp => bif tz then (bif dm then (bif ie then .rampDone else .rampStep) else .rampAbort) else .rampWait
      | .hold => bif dm then .holdWrite else .holdRelease
      | .settle => bif tz then .settleDone else .settleWait
      | .slave => .slaveWait := by
  cases p <;> revert tz sel dm t0 ie idx <;> decide

/-- The E slot's operation (R50, in the words of its table). -/
theorem selectE_eq (s : State) (iw : InputWord) :
    selectE s iw =
      if s.phase = .menu ∨ s.phase = .ctrlIdle then
        if s.lastA then (if inA iw then .encHigh else .encFall)
        else if inA iw then
          (if s.phase = .ctrlIdle then (if inB iw then .encIncT else .encDecT)
           else (if inB iw then .encIncM else .encDecM))
        else .encLow
      else .encHold := by
  unfold selectE eWord
  rw [decodeE_fields]
  generalize inA iw = a
  generalize inB iw = b
  cases hp : s.phase <;> cases s.lastA <;> cases a <;> cases b <;> rfl

theorem rampEnd_iff (s : State) : (rampEnd s = true) = (s.target.natAbs ≤ s.rampI) :=
  decide_eq_true_eq

/-- The C slot's operation (R51, in the words of its table). -/
theorem selectC_eq (s : State) (iw : InputWord) :
    selectC s iw =
      match s.phase with
      | .menu => if inSel iw then .menuPress else .menuPoll
      | .menuDb => if s.tmr = 0 then (if s.menuIdx = 1 then .selSlave else .selMaster) else .menuDbWait
      | .ctrlIdle =>
        if inSel iw then .modePress
        else if inDm iw then (if s.target = 0 then .rampZero else .rampStart) else .idlePoll
      | .ctrlDb => if s.tmr = 0 then .modeToggle else .modeDbWait
      | .ramp =>
        if s.tmr = 0 then
          (if inDm iw then (if s.target.natAbs ≤ s.rampI then .rampDone else .rampStep) else .rampAbort)
        else .rampWait
      | .hold => if inDm iw then .holdWrite else .holdRelease
      | .settle => if s.tmr = 0 then .settleDone else .settleWait
      | .slave => .slaveWait := by
  unfold selectC cWord
  rw [decodeC_fields]
  cases hp : s.phase <;>
    simp only [timerZero, targetZero, menuBit, Bool.cond_eq_ite, beq_iff_eq, rampEnd_iff]

/-- No meaning stops: `exec` always answers a next state. -/
theorem exec_next (i : Instr) (s : State) : ∃ t, exec i s = .next t := by
  cases i <;> exact ⟨_, rfl⟩

/-- The E slot's meaning leaves the state its trace names. -/
theorem exec_nextE (s : State) : exec s.nextE s.takeEdge = .next s.afterE := by
  obtain ⟨t, ht⟩ := exec_next s.nextE s.takeEdge
  simp [State.afterE, ht]

/-- A step without reset runs the C slot's operation on what the E slot left. -/
theorem step_eq_exec_nextC (s : State) (h : s.nextEdge.rst = false) : step s = exec s.nextC s.afterE := by
  have he := exec_nextE s
  unfold State.nextE State.nextEW at he
  simp only [step, clockEdge, h, tick, selectE, he, andThen_next, slotC, selectC, State.nextC, State.nextCW]

end Sys2Proof.Machine
end

