-- ==== Sys2Proof/Laws/Run.lean ====
section
/-! SUPPORT. Runs: one step after another, and what of the environment's edges and of the build a run leaves in view. -/

namespace Sys2Proof.Machine.State

theorem runsTo_zero (s : State) : s.RunsTo 0 s := rfl

theorem runsTo_succ {s u t : State} {n : Nat} (h : step s = .next u) (hr : u.RunsTo n t) : s.RunsTo (n + 1) t := by
  have h' : Sys2Proof.core.step s = .next u := h
  simp only [RunsTo, Host.Core.run, h']
  exact hr

theorem runsTo_one {s t : State} (h : step s = .next t) : s.RunsTo 1 t := runsTo_succ h (runsTo_zero t)

theorem runsTo_zero_inv {s t : State} (h : s.RunsTo 0 t) : t = s := by
  have h' : Host.Outcome.next s = Host.Outcome.next t := h
  injection h' with h'
  exact h'.symm

/-- The first step of a run. -/
theorem runsTo_succ_inv {s t : State} {n : Nat} (hr : s.RunsTo (n + 1) t) :
    ∃ u, step s = .next u ∧ u.RunsTo n t := by
  cases hs : step s with
  | next u =>
    have h' : Sys2Proof.core.step s = .next u := hs
    simp only [RunsTo, Host.Core.run, h'] at hr
    exact ⟨u, rfl, hr⟩
  | fault r => cases r
  | refused r =>
    have h' : Sys2Proof.core.step s = .refused r := hs
    simp only [RunsTo, Host.Core.run, h'] at hr
    cases hr

theorem runsTo_add {s u t : State} {m n : Nat} (h₁ : s.RunsTo m u) (h₂ : u.RunsTo n t) : s.RunsTo (m + n) t := by
  induction m generalizing s with
  | zero => rw [← runsTo_zero_inv h₁, Nat.zero_add]; exact h₂
  | succ m ih =>
    obtain ⟨v, hv, hr⟩ := runsTo_succ_inv h₁
    rw [Nat.succ_add_eq_add_succ]
    exact runsTo_succ hv (ih hr)

theorem runsTo_unique {s t t' : State} {n : Nat} (h : s.RunsTo n t) (h' : s.RunsTo n t') : t = t' := by
  unfold RunsTo at h h'
  rw [h] at h'
  injection h'

/-- No operation touches the build, the environment's edges or their count. -/
theorem exec_environment {i : Instr} {s t : State} (h : exec i s = .next t) :
    t.inputs = s.inputs ∧ t.edges = s.edges ∧ t.cfg = s.cfg := by
  cases i <;> (cases h; exact ⟨rfl, rfl, rfl⟩)

/-- A step takes one edge off the environment and leaves the build. -/
theorem step_environment {s u : State} (h : step s = .next u) :
    u.inputs = s.inputs.tail ∧ u.edges = s.edges + 1 ∧ u.cfg = s.cfg := by
  cases hr : s.nextEdge.rst with
  | true =>
    simp only [step, clockEdge, hr] at h
    injection h with h
    subst h
    exact ⟨rfl, rfl, rfl⟩
  | false =>
    rw [step_eq_exec_nextC s hr] at h
    have hc := exec_environment h
    have he := exec_environment (exec_nextE s)
    exact ⟨hc.1.trans he.1, hc.2.1.trans he.2.1, hc.2.2.trans he.2.2⟩

theorem step_edgeAt {s u : State} (h : step s = .next u) (j : Nat) : u.edgeAt j = s.edgeAt (j + 1) :=
  edgeAt_of_tail s u j (step_environment h).1 (step_environment h).2.1

theorem runsTo_edgeAt {s u : State} {m : Nat} (h : s.RunsTo m u) (j : Nat) : u.edgeAt j = s.edgeAt (m + j) := by
  induction m generalizing s with
  | zero => rw [runsTo_zero_inv h, Nat.zero_add]
  | succ m ih =>
    obtain ⟨v, hv, hr⟩ := runsTo_succ_inv h
    rw [ih hr, step_edgeAt hv, Nat.add_right_comm]

theorem runsTo_cfg {s u : State} {m : Nat} (h : s.RunsTo m u) : u.cfg = s.cfg := by
  induction m generalizing s with
  | zero => rw [runsTo_zero_inv h]
  | succ m ih =>
    obtain ⟨v, hv, hr⟩ := runsTo_succ_inv h
    rw [ih hr, (step_environment hv).2.2]

theorem noReset_of_le {s : State} {m n : Nat} (hn : s.NoReset n) (h : m ≤ n) : s.NoReset m :=
  fun j hj => hn j (Nat.lt_of_lt_of_le hj h)

theorem noReset_next {s : State} {n : Nat} (hn : s.NoReset (n + 1)) : s.nextEdge.rst = false :=
  hn 0 (Nat.succ_pos n)

theorem noReset_step {s u : State} {n : Nat} (h : step s = .next u) (hn : s.NoReset (n + 1)) : u.NoReset n := by
  intro j hj
  rw [step_edgeAt h]
  exact hn _ (Nat.succ_lt_succ hj)

/-- The `wr` events of a run add up. -/
theorem wrCount_add {s u : State} {m : Nat} (n : Nat) (h : s.RunsTo m u) :
    wrCount (m + n) s = wrCount m s + wrCount n u := by
  induction m generalizing s with
  | zero => rw [runsTo_zero_inv h, Nat.zero_add]; simp [wrCount]
  | succ m ih =>
    obtain ⟨v, hv, hr⟩ := runsTo_succ_inv h
    rw [Nat.succ_add_eq_add_succ]
    show wrCount (m + n + 1) s = _
    simp only [wrCount, hv, ih hr, Nat.add_assoc]

end Sys2Proof.Machine.State
end

