-- ==== Sys2Proof/Tests/Slice0.lean ====
section
/-! SUPPORT. The model's own tests: ill-formed terms refused, words written out from the operation maps decoded, one tick
per operation, and for every obligation with hypotheses a concrete case that meets them (test_meets_<its name>).
Expected results are those of spec/95_test_vectors.md section 2 (the vector's number is in the name) or are read off the
tables of 30_encoding.md. -/

namespace Sys2Proof.Tests

open Sys2Proof.Machine

/-! ## Helpers -/

/-- A state in the register order of R10, in a build with the reference intervals and `LASTA_RESET` = 0. -/
def reg (phase : Phase) (lastA : Bool) (menuIdx : Fin 2) (adjMode : AdjMode) (target : Int) (rampI tmr : Nat)
    (pwmEn : Bool) (pulseA pulseB : Int) : State :=
  { phase := phase, lastA := lastA, menuIdx := menuIdx, adjMode := adjMode, target := target, rampI := rampI,
    tmr := tmr, pwmEn := pwmEn, pulseA := pulseA, pulseB := pulseB, wr := none, disp := 0,
    cfg := ⟨1000, 225, 25, false⟩, inputs := [], edges := 0 }

/-- The small intervals of spec/95_test_vectors.md: 3 and 2. -/
def small (s : State) : State := { s with cfg := ⟨1000, 3, 2, false⟩ }

/-- The next ticks' input words. -/
def pins (s : State) (ws : List InputWord) : State := { s with inputs := ws.map (fun w => ⟨false, w⟩) }

/-- The state after n clock edges. -/
def ranTo (n : Nat) (s : State) : State :=
  match Host.Core.run Sys2Proof.core n s with
  | .next t => t
  | .fault _ => s
  | .refused _ => s

/-- One tick on the trace row's input word has that row and leaves those registers and events. -/
def ticksTo (s : State) (row : TraceRow) (t : State) (w : Option (Int × Int)) (d : BitVec 7) : Bool :=
  decide ((pins s [row.iw]).traceRow = row) &&
    match step (pins s [row.iw]) with
    | .next u => decide (u = { t with wr := w, disp := d, edges := 1 })
    | .fault _ => false
    | .refused _ => false

/-! ## Ill-formed terms -/

theorem test_tick_operations_in_the_wrong_slot_refused :
    (TickOps.mk .menuPoll .menuPoll).wf = false ∧ (TickOps.mk .encLow .encLow).wf = false ∧
    (TickOps.mk .menuPoll .encLow).wf = false ∧ (TickOps.mk .encLow .menuPoll).wf = true := by decide

theorem test_words_wider_than_their_format_refused :
    (TableWord.mk 8 32).wf = false ∧ (TableWord.mk 16 512).wf = false ∧ (TableWord.mk 17 0).wf = false ∧
    (TableWord.mk 8 31).wf = true ∧ (TableWord.mk 16 511).wf = true := by decide

theorem test_the_decoder_refuses_them_by_name :
    (TableWord.mk 8 32).toDispatch.toOption = none ∧ (TableWord.mk 16 512).toDispatch.toOption = none ∧
    (TableWord.mk 17 0).toDispatch.toOption = none ∧ decodeTableWord 8 32 = none ∧ decodeTableWord 16 512 = none := by
  decide

theorem test_builds_outside_their_constraints_refused :
    (Config.mk 0 1 1 false).wf = false ∧ (Config.mk 1 0 1 false).wf = false ∧ (Config.mk 1 1 0 false).wf = false ∧
    (Config.mk 1 1 1 true).wf = true := by decide

theorem test_reference_build_is_well_formed : Config.reference.wf = true := rfl

/-- R5: 8 bits at the reference values, 2 at the small ones, none at T = 1. -/
theorem test_tmr_width :
    Config.tmrW ⟨1000, 225, 25, false⟩ = 8 ∧ Config.tmrW ⟨1000, 3, 2, false⟩ = 2 ∧ Config.tmrW ⟨1000, 1, 1, false⟩ = 0 := by
  decide

/-! ## Decoding: every operation, from a word written out by R47 to R51, uncompared bits mixed -/

/-- `pe dst lastA a b`. -/
theorem test_decode_encoder_words :
    decodeE 0b01011 = .encHold ∧ decodeE 0b10001 = .encLow ∧ decodeE 0b11110 = .encHigh ∧
    decodeE 0b10101 = .encFall ∧ decodeE 0b10011 = .encIncM ∧ decodeE 0b10010 = .encDecM ∧
    decodeE 0b11011 = .encIncT ∧ decodeE 0b11010 = .encDecT := by decide

/-- `phase(3) tz sel dm t0 ie idx`: MENU, MENU_DB, SLAVE. -/
theorem test_decode_menu_words :
    decodeC 0b000101110 = .menuPoll ∧ decodeC 0b000010111 = .menuPress ∧ decodeC 0b001011001 = .menuDbWait ∧
    decodeC 0b001101110 = .selMaster ∧ decodeC 0b001110001 = .selSlave ∧ decodeC 0b111101010 = .slaveWait := by decide

/-- CTRL_IDLE and CTRL_DB. -/
theorem test_decode_control_words :
    decodeC 0b010111110 = .modePress ∧ decodeC 0b010100011 = .idlePoll ∧ decodeC 0b010001010 = .rampStart ∧
    decodeC 0b010101101 = .rampZero ∧ decodeC 0b011001110 = .modeDbWait ∧ decodeC 0b011110101 = .modeToggle := by decide

/-- RAMP, HOLD, SETTLE. -/
theorem test_decode_ramp_words :
    decodeC 0b100011110 = .rampWait ∧ decodeC 0b100110010 = .rampAbort ∧ decodeC 0b100101101 = .rampStep ∧
    decodeC 0b100111010 = .rampDone ∧ decodeC 0b101011001 = .holdWrite ∧ decodeC 0b101110110 = .holdRelease ∧
    decodeC 0b110011010 = .settleWait ∧ decodeC 0b110101111 = .settleDone := by decide

/-- The table's numbering: the word's bit 0 is `b`, and `idx`. -/
theorem test_table_words :
    decodeTableWord 8 0x1b = some .encIncT ∧ decodeTableWord 8 0x12 = some .encDecM ∧
    decodeTableWord 16 0x061 = some .selSlave ∧ decodeTableWord 16 0x12a = some .rampDone := by decide

/-! ## One tick each: the vectors of spec/95_test_vectors.md -/

theorem test_V3_encIncT :
    ticksTo (reg .ctrlIdle false 0 .coarse (95) 0 0 false 1500 1500)
      ⟨0b1111, 0b11011, .encIncT, 0b010100000, .idlePoll⟩
      (reg .ctrlIdle true 0 .coarse (100) 0 0 false 1500 1500)
      none 4 = true := by decide

theorem test_V8_encIncT :
    ticksTo (reg .ctrlIdle false 0 .fine (-1) 0 0 false 1500 1500)
      ⟨0b1111, 0b11011, .encIncT, 0b010100110, .idlePoll⟩
      (reg .ctrlIdle true 0 .fine (0) 0 0 false 1500 1500)
      none 4 = true := by decide

theorem test_V6_encDecT :
    ticksTo (reg .ctrlIdle false 0 .coarse (-95) 0 0 false 1500 1500)
      ⟨0b1101, 0b11010, .encDecT, 0b010100000, .idlePoll⟩
      (reg .ctrlIdle true 0 .coarse (-100) 0 0 false 1500 1500)
      none 4 = true := by decide

theorem test_V7_encDecT :
    ticksTo (reg .ctrlIdle false 0 .coarse (5) 0 0 false 1500 1500)
      ⟨0b1101, 0b11010, .encDecT, 0b010100000, .idlePoll⟩
      (reg .ctrlIdle true 0 .coarse (-5) 0 0 false 1500 1500)
      none 4 = true := by decide

theorem test_V10_encHigh :
    ticksTo (reg .ctrlIdle true 0 .fine (7) 0 0 false 1500 1500)
      ⟨0b1111, 0b11111, .encHigh, 0b010100000, .idlePoll⟩
      (reg .ctrlIdle true 0 .fine (7) 0 0 false 1500 1500)
      none 0 = true := by decide

theorem test_V11_encFall :
    ticksTo (reg .ctrlIdle true 0 .fine (7) 0 0 false 1500 1500)
      ⟨0b1100, 0b11100, .encFall, 0b010100000, .idlePoll⟩
      (reg .ctrlIdle false 0 .fine (7) 0 0 false 1500 1500)
      none 0 = true := by decide

theorem test_V12_encLow :
    ticksTo (reg .ctrlIdle false 0 .fine (7) 0 0 false 1500 1500)
      ⟨0b1110, 0b11001, .encLow, 0b010100000, .idlePoll⟩
      (reg .ctrlIdle false 0 .fine (7) 0 0 false 1500 1500)
      none 0 = true := by decide

theorem test_V14_encIncM :
    ticksTo (reg .menu false 1 .fine (0) 0 0 false 1500 1500)
      ⟨0b1111, 0b10011, .encIncM, 0b000100111, .menuPoll⟩
      (reg .menu true 1 .fine (0) 0 0 false 1500 1500)
      none 1 = true := by decide

theorem test_V13_encIncM :
    ticksTo (reg .menu false 0 .fine (0) 0 0 false 1500 1500)
      ⟨0b1111, 0b10011, .encIncM, 0b000100111, .menuPoll⟩
      (reg .menu true 1 .fine (0) 0 0 false 1500 1500)
      none 1 = true := by decide

theorem test_V16_encDecM :
    ticksTo (reg .menu false 0 .fine (0) 0 0 false 1500 1500)
      ⟨0b1101, 0b10010, .encDecM, 0b000100110, .menuPoll⟩
      (reg .menu true 0 .fine (0) 0 0 false 1500 1500)
      none 1 = true := by decide

theorem test_V17_encDecM :
    ticksTo (reg .menu false 1 .coarse (0) 0 0 false 1500 1500)
      ⟨0b1101, 0b10010, .encDecM, 0b000100110, .menuPoll⟩
      (reg .menu true 0 .coarse (0) 0 0 false 1500 1500)
      none 1 = true := by decide

theorem test_V18_encHold :
    ticksTo (reg .ramp false 0 .fine (7) 2 5 true 1510 1490)
      ⟨0b0111, 0b00011, .encHold, 0b100001000, .rampWait⟩
      (reg .ramp false 0 .fine (7) 2 4 true 1510 1490)
      none 0 = true := by decide

theorem test_V19_encHold :
    ticksTo (reg .hold true 0 .fine (7) 7 0 true 1535 1465)
      ⟨0b0100, 0b00100, .encHold, 0b101101010, .holdWrite⟩
      (reg .hold true 0 .fine (7) 7 0 true 1535 1465)
      (some (1535, 1465)) 0 = true := by decide

theorem test_V29_menuPoll :
    ticksTo (reg .menu true 0 .fine (0) 0 0 false 1500 1500)
      ⟨0b0111, 0b10111, .encHigh, 0b000101110, .menuPoll⟩
      (reg .menu true 0 .fine (0) 0 0 false 1500 1500)
      none 0 = true := by decide

theorem test_V30_menuPress :
    ticksTo (reg .menu false 0 .fine (0) 0 0 false 1500 1500)
      ⟨0b1011, 0b10011, .encIncM, 0b000110111, .menuPress⟩
      (reg .menuDb true 1 .fine (0) 0 224 false 1500 1500)
      none 1 = true := by decide

theorem test_V31_menuDbWait :
    ticksTo (reg .menuDb true 1 .fine (0) 0 2 false 1500 1500)
      ⟨0b0000, 0b00100, .encHold, 0b001011111, .menuDbWait⟩
      (reg .menuDb true 1 .fine (0) 0 1 false 1500 1500)
      none 0 = true := by decide

theorem test_V32_selMaster :
    ticksTo (reg .menuDb false 0 .fine (0) 0 0 false 1500 1500)
      ⟨0b1100, 0b00000, .encHold, 0b001100110, .selMaster⟩
      (reg .ctrlIdle false 0 .fine (0) 0 0 false 1500 1500)
      none 2 = true := by decide

theorem test_V33_selSlave :
    ticksTo (reg .menuDb true 1 .fine (0) 0 0 false 1500 1500)
      ⟨0b1100, 0b00100, .encHold, 0b001100111, .selSlave⟩
      (reg .slave true 1 .fine (0) 0 0 false 1500 1500)
      none 64 = true := by decide

theorem test_V34_slaveWait :
    ticksTo (reg .slave true 1 .fine (0) 0 0 false 1500 1500)
      ⟨0b0000, 0b01100, .encHold, 0b111111111, .slaveWait⟩
      (reg .slave true 1 .fine (0) 0 0 false 1500 1500)
      none 0 = true := by decide

theorem test_V22_modePress :
    ticksTo (reg .ctrlIdle false 0 .fine (4) 0 0 false 1500 1500)
      ⟨0b0000, 0b11000, .encLow, 0b010111000, .modePress⟩
      (reg .ctrlDb false 0 .fine (4) 0 224 false 1500 1500)
      none 0 = true := by decide

theorem test_V23_modePress :
    ticksTo (reg .ctrlIdle false 0 .fine (4) 0 0 false 1500 1500)
      ⟨0b1011, 0b11011, .encIncT, 0b010110000, .modePress⟩
      (reg .ctrlDb true 0 .fine (5) 0 224 false 1500 1500)
      none 4 = true := by decide

theorem test_V24_modeDbWait :
    ticksTo (reg .ctrlDb false 0 .fine (4) 0 224 false 1500 1500)
      ⟨0b0011, 0b01011, .encHold, 0b011011000, .modeDbWait⟩
      (reg .ctrlDb false 0 .fine (4) 0 223 false 1500 1500)
      none 0 = true := by decide

theorem test_V26_modeToggle :
    ticksTo (reg .ctrlDb false 0 .fine (4) 0 0 false 1500 1500)
      ⟨0b1100, 0b01000, .encHold, 0b011100000, .modeToggle⟩
      (reg .ctrlIdle false 0 .coarse (4) 0 0 false 1500 1500)
      none 8 = true := by decide

theorem test_V27_modeToggle :
    ticksTo (reg .ctrlDb false 0 .coarse (4) 0 0 false 1500 1500)
      ⟨0b1000, 0b01000, .encHold, 0b011110000, .modeToggle⟩
      (reg .ctrlIdle false 0 .fine (4) 0 0 false 1500 1500)
      none 8 = true := by decide

theorem test_V40_idlePoll :
    ticksTo (reg .ctrlIdle false 0 .fine (12) 0 0 false 1500 1500)
      ⟨0b1100, 0b11000, .encLow, 0b010100000, .idlePoll⟩
      (reg .ctrlIdle false 0 .fine (12) 0 0 false 1500 1500)
      none 0 = true := by decide

theorem test_V36_rampStart :
    ticksTo (reg .ctrlIdle false 0 .fine (-30) 50 0 false 1750 1250)
      ⟨0b0100, 0b11000, .encLow, 0b010101010, .rampStart⟩
      (reg .ramp false 0 .fine (-30) 0 24 true 1500 1500)
      (some (1500, 1500)) 16 = true := by decide

theorem test_V37_rampStart :
    ticksTo (reg .ctrlIdle false 0 .fine (0) 0 0 false 1500 1500)
      ⟨0b0111, 0b11011, .encIncT, 0b010101000, .rampStart⟩
      (reg .ramp true 0 .fine (1) 0 24 true 1500 1500)
      (some (1500, 1500)) 20 = true := by decide

theorem test_V38_rampZero :
    ticksTo (reg .ctrlIdle false 0 .fine (1) 0 0 false 1500 1500)
      ⟨0b0101, 0b11010, .encDecT, 0b010101110, .rampZero⟩
      (reg .settle true 0 .fine (0) 0 224 false 1500 1500)
      none 4 = true := by decide

theorem test_V39_rampZero :
    ticksTo (reg .ctrlIdle false 0 .fine (0) 0 0 false 1500 1500)
      ⟨0b0100, 0b11000, .encLow, 0b010101110, .rampZero⟩
      (reg .settle false 0 .fine (0) 0 224 false 1500 1500)
      none 0 = true := by decide

theorem test_V41_rampWait :
    ticksTo (reg .ramp false 0 .fine (50) 10 24 true 1550 1450)
      ⟨0b1100, 0b00000, .encHold, 0b100000000, .rampWait⟩
      (reg .ramp false 0 .fine (50) 10 23 true 1550 1450)
      none 0 = true := by decide

theorem test_V43_rampStep :
    ticksTo (reg .ramp false 0 .fine (-30) 9 0 true 1455 1545)
      ⟨0b0100, 0b00000, .encHold, 0b100101000, .rampStep⟩
      (reg .ramp false 0 .fine (-30) 10 24 true 1450 1550)
      (some (1450, 1550)) 16 = true := by decide

theorem test_V45_rampStep :
    ticksTo (reg .ramp false 0 .fine (100) 99 0 true 1995 1005)
      ⟨0b0100, 0b00000, .encHold, 0b100101000, .rampStep⟩
      (reg .ramp false 0 .fine (100) 100 24 true 2000 1000)
      (some (2000, 1000)) 16 = true := by decide

theorem test_V47_rampDone :
    ticksTo (reg .ramp false 0 .fine (50) 50 0 true 1750 1250)
      ⟨0b0100, 0b00000, .encHold, 0b100101010, .rampDone⟩
      (reg .hold false 0 .fine (50) 50 0 true 1750 1250)
      none 32 = true := by decide

theorem test_V49_rampDone :
    ticksTo (reg .ramp false 0 .fine (3) 7 0 true 1535 1465)
      ⟨0b0100, 0b00000, .encHold, 0b100101010, .rampDone⟩
      (reg .hold false 0 .fine (3) 7 0 true 1535 1465)
      none 32 = true := by decide

theorem test_V44_rampAbort :
    ticksTo (reg .ramp false 0 .fine (-30) 9 0 true 1455 1545)
      ⟨0b1100, 0b00000, .encHold, 0b100100000, .rampAbort⟩
      (reg .settle false 0 .fine (-30) 9 224 false 1455 1545)
      none 0 = true := by decide

theorem test_V48_rampAbort :
    ticksTo (reg .ramp false 0 .fine (50) 50 0 true 1750 1250)
      ⟨0b1100, 0b00000, .encHold, 0b100100010, .rampAbort⟩
      (reg .settle false 0 .fine (50) 50 224 false 1750 1250)
      none 0 = true := by decide

theorem test_V50_holdWrite :
    ticksTo (reg .hold false 0 .fine (-30) 30 0 true 1350 1650)
      ⟨0b0011, 0b00011, .encHold, 0b101111010, .holdWrite⟩
      (reg .hold false 0 .fine (-30) 30 0 true 1350 1650)
      (some (1350, 1650)) 0 = true := by decide

theorem test_V51_holdRelease :
    ticksTo (reg .hold false 0 .fine (-30) 30 0 true 1350 1650)
      ⟨0b1100, 0b00000, .encHold, 0b101100010, .holdRelease⟩
      (reg .settle false 0 .fine (-30) 30 224 false 1350 1650)
      none 0 = true := by decide

theorem test_V52_settleWait :
    ticksTo (reg .settle false 0 .fine (-30) 30 224 false 1350 1650)
      ⟨0b0100, 0b01000, .encHold, 0b110001010, .settleWait⟩
      (reg .settle false 0 .fine (-30) 30 223 false 1350 1650)
      none 0 = true := by decide

theorem test_V53_settleDone :
    ticksTo (reg .settle false 0 .fine (-30) 30 0 false 1350 1650)
      ⟨0b0100, 0b01000, .encHold, 0b110101010, .settleDone⟩
      (reg .ctrlIdle false 0 .fine (-30) 30 0 false 1350 1650)
      none 2 = true := by decide

/-- 95_test_vectors.md 2.6: the reset edge, with every pin asserted. -/
theorem test_reset_edge :
    step { reg .hold true 0 .coarse (-30) 30 0 true 1350 1650 with inputs := [⟨true, 0b0011⟩] } =
      .next { reg .menu false 0 .fine 0 0 0 false 1500 1500 with edges := 1 } := rfl

/-- R58: REST, PRESS, INC, DEC and a suffix. -/
theorem test_stimulus_expansion :
    Stim.edges [.rest 1, .press 1, .inc, .dec, .held .inc] =
      [⟨false, 0b1100⟩, ⟨false, 0b1000⟩, ⟨false, 0b1110⟩, ⟨false, 0b1111⟩, ⟨false, 0b1100⟩, ⟨false, 0b1101⟩,
       ⟨false, 0b0110⟩, ⟨false, 0b0111⟩] := by decide

/-- R21 and R33: the ports of a disabled menu, of Holding at full reverse with both strobes up, and of the slave screen. -/
theorem test_ports :
    (reg .menu false 1 .fine 0 0 0 false 1500 1500).ports =
      { pwm_en := 0, pulse_a := 1500, pulse_b := 1500, pwm_wr := 0, opmode := 0, adj_mode := 0, target := 0,
        menu_idx := 1, ramp_i := 0, disp_req := 0 } ∧
    (State.ports { reg .hold true 0 .coarse (-100) 100 0 true 1000 2000 with wr := some (1000, 2000), disp := 0b0100000 }) =
      { pwm_en := 1, pulse_a := 1000, pulse_b := 2000, pwm_wr := 1, opmode := 1, adj_mode := 1, target := 0b10011100,
        menu_idx := 0, ramp_i := 100, disp_req := 0b0100000 } ∧
    (reg .slave false 1 .fine 0 0 0 false 1500 1500).ports.opmode = 2 := by decide

/-! ## The hypotheses of the obligations are met

`test_meets_X` shows states and operands that meet the hypotheses of `Obligations.X`, at the ends of their ranges. A step
or a run named there really leads on. -/

/-- Polling on the control screen, A seen LOW. -/
def idle (target : Int) (ws : List InputWord) : State :=
  pins (small (reg .ctrlIdle false 0 .fine target 0 0 false 1500 1500)) ws

/-- Ramping to 3, one step written, at a step tick. -/
def ramping (ws : List InputWord) : State := pins (small (reg .ramp false 0 .fine 3 1 0 true 1505 1495)) ws

/-- Holding -30. -/
def holding (ws : List InputWord) : State := pins (small (reg .hold true 0 .coarse (-30) 30 0 true 1350 1650)) ws

/-- Holding 100, the end of the range. -/
def holdingMax (ws : List InputWord) : State := pins (small (reg .hold true 0 .coarse 100 100 0 true 2000 1000)) ws

/-- In the menu. -/
def atMenu (ws : List InputWord) : State := pins (small (reg .menu false 0 .fine 0 0 0 false 1500 1500)) ws

/-- In the slave screen. -/
def atSlave (ws : List InputWord) : State := pins (small (reg .slave false 1 .fine 0 0 0 false 1500 1500)) ws

/-- In a phase that waits, n ticks to go. -/
def delayed (p : Phase) (n : Nat) (ws : List InputWord) : State :=
  pins (small (reg p false 0 .fine 0 0 n false 1500 1500)) ws

/-- A reset edge to come. -/
def beforeReset : State := { holding [] with inputs := [⟨true, 0b0011⟩] }

theorem idle_inv : Inv (idle 5 [0b1100]) := by constructor <;> decide

theorem ramping_inv : Inv (ramping [0b0100]) := by constructor <;> decide

theorem holding_inv : Inv (holding [0b0100]) := by constructor <;> decide

theorem holdingMax_inv : Inv (holdingMax []) := by constructor <;> decide

theorem releasedRamp_inv : Inv (ramping [0b1100, 0b1100]) := by constructor <;> decide

theorem releasedHold_inv : Inv (holding [0b1100, 0b1100]) := by constructor <;> decide

theorem beforeReset_inv : Inv beforeReset := by constructor <;> decide

theorem test_meets_TargetStepsClampAndReport :
    (idle (-1) [0b1111]).nextE = .encIncT ∧ (idle 100 [0b1101]).nextE = .encDecT := by decide

theorem test_meets_ModeToggleOperations :
    (delayed .ctrlDb 1 []).tmr = 0 + 1 ∧ (delayed .ctrlDb 224 []).tmr = 223 + 1 := by decide

theorem test_meets_MenuSelectionOperations :
    (delayed .menuDb 1 []).tmr = 0 + 1 ∧ (delayed .menuDb 224 []).tmr = 223 + 1 := by decide

theorem test_meets_PollingTicksWriteNothing :
    Inv (idle 5 [0b1100]) ∧ (idle 5 [0b1100]).phase = .ctrlIdle ∧ Inv (atMenu []) ∧ (atMenu []).phase = .menu :=
  ⟨idle_inv, rfl, by constructor <;> decide, rfl⟩

theorem test_meets_SafeStopEntry :
    Instr.rampZero ∈ [Instr.rampZero, .rampAbort, .holdRelease] ∧
    Instr.holdRelease ∈ [Instr.rampZero, .rampAbort, .holdRelease] := by decide

theorem test_meets_RampRunningOperations :
    (delayed .ramp 1 []).tmr = 0 + 1 ∧ (delayed .ramp 24 []).tmr = 23 + 1 ∧
    (10 : Int) = (ramping []).target.sign * (((ramping []).rampI : Int) + 1) * 5 := by decide

theorem test_meets_HoldAndSettleOperations :
    (delayed .settle 1 []).tmr = 0 + 1 ∧ (delayed .settle 224 []).tmr = 223 + 1 := by decide

theorem test_meets_ClampSaturatesWithoutWrap :
    (0 : Int) ≤ 1 ∧ (-1 : Int) < 0 ∧ (1 : Int) < 2 ∧ (0 : Int) ≤ 0 ∧ (0 : Int) ≤ 1 ∧
    (-100 : Int) ≤ -100 ∧ (100 : Int) ≤ 100 := by decide

theorem test_meets_TargetLaw :
    -100 ≤ (idle 100 []).target ∧ (idle 100 []).target ≤ 100 ∧
    -100 ≤ (idle (-100) []).target ∧ (idle (-100) []).target ≤ 100 ∧
    exec .idlePoll (idle 100 []) = .next (idle 100 []) := ⟨by decide, by decide, by decide, by decide, rfl⟩

theorem test_meets_PulseMapping : (-100 : Int) ≤ -100 ∧ (-100 : Int) ≤ 100 ∧ (-100 : Int) ≤ 100 ∧ (100 : Int) ≤ 100 := by
  decide

/-- Two operations which between them meet every clause. -/
theorem test_meets_RegisterWriters :
    exec .encHold (idle 5 []) = .next (idle 5 []) ∧ exec .menuPoll (atMenu []) = .next (atMenu []) ∧
    Instr.slot .menuPoll = .C ∧
    Instr.menuPoll ∉ [Instr.menuPress, .selMaster, .selSlave, .modePress, .modeToggle, .rampStart, .rampZero,
      .rampAbort, .rampDone, .holdRelease, .settleDone, .encIncM, .encDecM, .encIncT, .encDecT, .rampStep, .menuDbWait,
      .modeDbWait, .rampWait, .settleWait, .holdWrite] := ⟨rfl, rfl, rfl, by decide⟩

theorem test_meets_EnableGate :
    exec .encHold (idle 5 []) = .next (idle 5 []) ∧ (holding []).pwmEn = true ∧ (idle 5 []).pwmEn = false ∧
    Inv (holdingMax []) := ⟨rfl, rfl, rfl, holdingMax_inv⟩

theorem test_meets_StepKeepsReachableStateInvariants :
    Inv (ramping [0b0100]) ∧ step (ramping [0b0100]) = .next (ranTo 1 (ramping [0b0100])) ∧
    Inv beforeReset ∧ step beforeReset = .next (ranTo 1 beforeReset) := ⟨ramping_inv, rfl, beforeReset_inv, rfl⟩

theorem test_meets_RegistersFitTheirPorts : Inv (holding [0b0100]) ∧ Inv (holdingMax []) := ⟨holding_inv, holdingMax_inv⟩

theorem test_meets_ResetEdgeLoadsEveryRegister : beforeReset.nextEdge.rst = true := rfl

theorem test_meets_OutputsAfterReset :
    beforeReset.nextEdge.rst = true ∧ step beforeReset = .next (ranTo 1 beforeReset) := ⟨rfl, rfl⟩

/-- The ends of both formats, `t0` with and without `ie`. -/
theorem test_meets_PlacedWordIsTheOneDispatched :
    0 < 32 ∧ 31 < 32 ∧ 0 < 512 ∧ 511 < 512 ∧
    (BitVec.ofNat 9 511).getLsbD 2 = true ∧ (BitVec.ofNat 9 511).getLsbD 1 = true ∧ (BitVec.ofNat 9 0).getLsbD 2 = false ∧
    (State.reset.withFetchWord 16 511).nextC = .slaveWait := by decide

theorem test_meets_StepRunsTheDecodedOperations :
    (idle 0 [0b0111]).nextEdge = ⟨false, 0b0111⟩ ∧ decodeE (eWord (idle 0 [0b0111]) 0b0111) = .encIncT ∧
    exec .encIncT (idle 0 [0b0111]).takeEdge = .next (idle 0 [0b0111]).afterE ∧
    decodeC (cWord (idle 0 [0b0111]).afterE 0b0111) = .rampStart ∧
    exec .rampStart (idle 0 [0b0111]).afterE = .next (ranTo 1 (idle 0 [0b0111])) :=
  ⟨rfl, by decide, rfl, by decide, rfl⟩

theorem test_meets_StepIsTheWholeTickPseudocode : (ramping [0b0100]).nextEdge.rst = false := rfl

/-- An edge, on each of the two screens, and none. -/
theorem test_meets_PollContract :
    (idle 5 [0b1101]).phase = .ctrlIdle ∧ (atMenu [0b1111]).phase = .menu ∧
    (idle 5 [0b1101]).lastA = false ∧ (idle 5 [0b1101]).nextEdge.iw.getLsbD 0 = true ∧
    (atMenu [0b1111]).lastA = false ∧ (atMenu [0b1111]).nextEdge.iw.getLsbD 0 = true ∧
    (idle 5 [0b1100]).nextEdge.iw.getLsbD 0 = false := by decide

theorem test_meets_LastAIsTheLevelOfTheLastPoll :
    (idle 5 [0b1101]).nextEdge.rst = false ∧ step (idle 5 [0b1101]) = .next (ranTo 1 (idle 5 [0b1101])) := ⟨rfl, rfl⟩

theorem test_meets_TargetMovesByAtMostOneStep :
    (idle 100 [0b1111]).nextEdge.rst = false ∧ -100 ≤ (idle 100 [0b1111]).target ∧ (idle 100 [0b1111]).target ≤ 100 ∧
    step (idle 100 [0b1111]) = .next (ranTo 1 (idle 100 [0b1111])) ∧ (ramping [0b0100]).phase ≠ .ctrlIdle ∧
    Instr.slot .encHold = .E ∧ exec .encHold (idle 5 []) = .next (idle 5 []) :=
  ⟨rfl, by decide, by decide, rfl, by decide, rfl, rfl⟩

/-- An increment, a poll that sees A fall, a decrement. -/
theorem test_meets_EventsAreSeparatedByALowPoll :
    (idle 5 [0b1111, 0b1100, 0b1101]).nextE = .encIncT ∧
    step (idle 5 [0b1111, 0b1100, 0b1101]) = .next (ranTo 1 (idle 5 [0b1111, 0b1100, 0b1101])) ∧
    State.NoReset (idle 5 [0b1111, 0b1100, 0b1101]) 2 ∧
    State.RunsTo (ranTo 1 (idle 5 [0b1111, 0b1100, 0b1101])) 1 (ranTo 2 (idle 5 [0b1111, 0b1100, 0b1101])) ∧
    (ranTo 2 (idle 5 [0b1111, 0b1100, 0b1101])).nextE = .encDecT :=
  ⟨by decide, rfl, by unfold State.NoReset; decide, rfl, by decide⟩

/-- One pair of words for each of the four clauses. -/
theorem test_meets_UncomparedInputsHaveNoEffect :
    (delayed .settle 0 []).phase = .settle ∧ (delayed .ramp 1 []).phase = .ramp ∧ (delayed .ramp 1 []).tmr ≠ 0 ∧
    (ramping []).phase = .ramp ∧ (0b0100 : InputWord).getLsbD 3 = (0b0011 : InputWord).getLsbD 3 ∧
    (atMenu []).phase = .menu ∧ (0b0111 : InputWord).getLsbD 2 = (0b1111 : InputWord).getLsbD 2 ∧
    (0b0111 : InputWord).getLsbD 1 = (0b1111 : InputWord).getLsbD 1 ∧
    (0b0111 : InputWord).getLsbD 0 = (0b1111 : InputWord).getLsbD 0 ∧
    (idle 5 []).phase = .ctrlIdle ∧ (0b0011 : InputWord).getLsbD 2 = false ∧
    ¬ ((idle 5 []).lastA = false ∧ (0b1110 : InputWord).getLsbD 0 = true) ∧
    (0b1110 : InputWord).getLsbD 3 = (0b1100 : InputWord).getLsbD 3 ∧
    (0b1110 : InputWord).getLsbD 2 = (0b1100 : InputWord).getLsbD 2 ∧
    (0b1110 : InputWord).getLsbD 0 = (0b1100 : InputWord).getLsbD 0 := by decide

theorem test_meets_PriorityOfSimultaneousInputs :
    (atMenu [0b0000]).phase = .menu ∧ (idle 5 [0b0000]).phase = .ctrlIdle ∧ (ramping [0b0000]).phase = .ramp ∧
    (ramping [0b0000]).tmr = 0 ∧ (holding [0b0000]).phase = .hold ∧
    true = (!(idle 5 [0b0000]).nextEdge.iw.getLsbD 2) ∧ true = (!(idle 5 [0b0000]).nextEdge.iw.getLsbD 3) := by decide

/-- The three clauses, on reset states of builds with either value. -/
theorem test_meets_FirstPollHazard :
    pins (State.resetWith ⟨1000, 3, 2, false⟩) [0b1101] =
      { State.resetWith ⟨1000, 3, 2, false⟩ with
        inputs := (pins (State.resetWith ⟨1000, 3, 2, false⟩) [0b1101]).inputs, edges := 0 } ∧
    (pins (State.resetWith ⟨1000, 3, 2, false⟩) [0b1101]).nextEdge.iw.getLsbD 0 = true ∧
    (pins (State.resetWith ⟨1000, 3, 2, true⟩) [0b1100]).nextEdge.iw.getLsbD 0 = false ∧
    (Config.mk 1000 3 2 true).lastAReset = (pins (State.resetWith ⟨1000, 3, 2, true⟩) [0b1111]).nextEdge.iw.getLsbD 0 := by
  decide

theorem test_meets_IncAndDecStimuliAreOneEvent :
    (idle 5 []).phase = .ctrlIdle ∧
    ((idle 5 []).withStimulus [.inc]).inputs = Stim.edges [.inc] ++ [] ∧
    ((idle 5 []).withStimulus [.dec]).inputs = Stim.edges [.dec] ++ [] := by decide

theorem test_meets_PhaseTransitions :
    (idle 5 [0b0100]).nextEdge.rst = false ∧ step (idle 5 [0b0100]) = .next (ranTo 1 (idle 5 [0b0100])) ∧
    false = (!(idle 5 [0b0100]).nextEdge.iw.getLsbD 2) ∧ true = (!(idle 5 [0b0100]).nextEdge.iw.getLsbD 3) :=
  ⟨rfl, rfl, by decide, by decide⟩

/-- A tick that writes, in a state of R24, and one that does not. -/
theorem test_meets_WriteEvents :
    (holding [0b0100]).nextEdge.rst = false ∧ step (holding [0b0100]) = .next (ranTo 1 (holding [0b0100])) ∧
    (holding [0b0100]).nextC = .holdWrite ∧ Inv (holding [0b0100]) ∧
    (ranTo 1 (holding [0b0100])).wr = some (1350, 1650) ∧ (idle 5 [0b1100]).nextC = .idlePoll :=
  ⟨rfl, rfl, by decide, holding_inv, by decide, by decide⟩

/-- The one tick with two requests. -/
theorem test_meets_RedrawRequests :
    (idle 0 [0b0111]).nextEdge.rst = false ∧ step (idle 0 [0b0111]) = .next (ranTo 1 (idle 0 [0b0111])) ∧
    (ranTo 1 (idle 0 [0b0111])).disp.getLsbD 2 = true ∧ (ranTo 1 (idle 0 [0b0111])).disp.getLsbD 4 = true :=
  ⟨rfl, rfl, by decide, by decide⟩

theorem test_meets_StrobesAreNeverReadBack :
    step (holding [0b0100]) = .next (ranTo 1 (holding [0b0100])) := rfl

/-- The mode chosen; the menu not left; a state of R24 outside Master. -/
theorem test_meets_OperatingModeIsChosenOnce :
    (delayed .menuDb 0 [0b1100]).nextEdge.rst = false ∧
    step (delayed .menuDb 0 [0b1100]) = .next (ranTo 1 (delayed .menuDb 0 [0b1100])) ∧
    (ranTo 1 (delayed .menuDb 0 [0b1100])).opMode ≠ (delayed .menuDb 0 [0b1100]).opMode ∧
    (ranTo 1 (atMenu [0b1100])).phase = .menu ∧
    Inv (atSlave [0b0000]) ∧ (ranTo 1 (atSlave [0b0000])).opMode ≠ .master :=
  ⟨rfl, rfl, by decide, by decide, by constructor <;> decide, by decide⟩

theorem test_meets_TargetIsFrozenWhileRamping :
    (ramping [0b0100]).nextEdge.rst = false ∧ step (ramping [0b0100]) = .next (ranTo 1 (ramping [0b0100])) ∧
    (ramping [0b0100]).phase = .ramp ∧ (holding []).phase = .hold ∧ (delayed .settle 0 []).phase = .settle :=
  ⟨rfl, rfl, rfl, rfl, rfl⟩

theorem test_meets_OutputsAreEnabledOnlyByRampStart :
    (idle 5 [0b0100]).nextEdge.rst = false ∧ step (idle 5 [0b0100]) = .next (ranTo 1 (idle 5 [0b0100])) ∧
    (idle 5 [0b0100]).pwmEn = false ∧ (ranTo 1 (idle 5 [0b0100])).pwmEn = true := ⟨rfl, rfl, rfl, by decide⟩

/-- A step and a hold. -/
theorem test_meets_CommandedPulseNeverJumps :
    Inv (ramping [0b0100]) ∧ (ramping [0b0100]).nextEdge.rst = false ∧
    step (ramping [0b0100]) = .next (ranTo 1 (ramping [0b0100])) ∧ (ramping [0b0100]).pwmEn = true ∧
    (ramping [0b0100]).nextC = .rampStep ∧
    Inv (holding [0b0100]) ∧ step (holding [0b0100]) = .next (ranTo 1 (holding [0b0100])) ∧
    (holding [0b0100]).nextC ≠ .rampStep :=
  ⟨ramping_inv, rfl, rfl, rfl, by decide, holding_inv, rfl, by decide⟩

theorem test_meets_SlaveStepsToItselfForEver :
    (atSlave [0b0000, 0b1111]).phase = .slave ∧ State.NoReset (atSlave [0b0000, 0b1111]) (1 + 1) :=
  ⟨rfl, by unfold State.NoReset; decide⟩

/-- The seven operations that start a delay. -/
theorem test_meets_TimerLaw :
    delayOf (atMenu [0b1000, 0, 0]).cfg (atMenu [0b1000, 0, 0]).nextC = some (.menuDb, 3) ∧
    waitOf .menuDb = some (.menuDbWait, [.selMaster, .selSlave]) ∧ State.NoReset (atMenu [0b1000, 0, 0]) 3 ∧
    delayOf (ramping [0b0100, 0]).cfg (ramping [0b0100, 0]).nextC = some (.ramp, 2) ∧
    (ramping [0b0100, 0]).nextC = .rampStep ∧ State.NoReset (ramping [0b0100, 0]) 2 ∧
    delayOf (ramping [0b1100, 0, 0]).cfg (ramping [0b1100, 0, 0]).nextC = some (.settle, 3) ∧
    (ramping [0b1100, 0, 0]).nextC = .rampAbort ∧ State.NoReset (ramping [0b1100, 0, 0]) 3 ∧
    delayOf (idle 0 [0b0100, 0, 0]).cfg (idle 0 [0b0100, 0, 0]).nextC = some (.settle, 3) ∧
    (idle 0 [0b0100, 0, 0]).nextC = .rampZero ∧ State.NoReset (idle 0 [0b0100, 0, 0]) 3 ∧
    (idle 5 [0b1000, 0, 0]).cfg.wf = true ∧
    delayOf (idle 5 [0b1000, 0, 0]).cfg (idle 5 [0b1000, 0, 0]).nextC = some (.ctrlDb, 3) ∧
    waitOf .ctrlDb = some (.modeDbWait, [.modeToggle]) ∧ State.NoReset (idle 5 [0b1000, 0, 0]) 3 ∧
    delayOf (idle 5 [0b0100, 0]).cfg (idle 5 [0b0100, 0]).nextC = some (.ramp, 2) ∧
    waitOf .ramp = some (.rampWait, [.rampStep, .rampDone, .rampAbort]) ∧ State.NoReset (idle 5 [0b0100, 0]) 2 ∧
    delayOf (holding [0b1100, 0, 0]).cfg (holding [0b1100, 0, 0]).nextC = some (.settle, 3) ∧
    waitOf .settle = some (.settleWait, [.settleDone]) ∧ State.NoReset (holding [0b1100, 0, 0]) 3 := by
  unfold State.NoReset; decide

/-- A ramp to 1, held at its two step ticks and not looked at between. -/
theorem test_meets_RampReachesTheTargetOnTime :
    (idle 1 [0b0100, 0b1100, 0b0100, 0b1100, 0b0100]).cfg.wf = true ∧
    (idle 1 [0b0100, 0b1100, 0b0100, 0b1100, 0b0100]).nextC = .rampStart ∧
    1 = (idle 1 [0b0100, 0b1100, 0b0100, 0b1100, 0b0100]).afterE.target.natAbs ∧
    State.NoReset (idle 1 [0b0100, 0b1100, 0b0100, 0b1100, 0b0100]) 4 ∧
    ((idle 1 [0b0100, 0b1100, 0b0100, 0b1100, 0b0100]).edgeAt 2).iw.getLsbD 3 = false ∧
    ((idle 1 [0b0100, 0b1100, 0b0100, 0b1100, 0b0100]).edgeAt 4).iw.getLsbD 3 = false := by
  unfold State.NoReset; decide

/-- Released at the check of the first step, and at the last check, that for Holding. -/
theorem test_meets_RampAbortsAtTheReleasedCheck :
    (idle (-1) [0b0100, 0b0100, 0b1100]).nextC = .rampStart ∧
    State.NoReset (idle (-1) [0b0100, 0b0100, 0b1100]) (1 * 2 + 1) ∧
    1 ≤ (idle (-1) [0b0100, 0b0100, 0b1100]).afterE.target.natAbs + 1 ∧
    ((idle (-1) [0b0100, 0b0100, 0b1100]).edgeAt (1 * 2)).iw.getLsbD 3 = true ∧
    (idle (-1) [0b0100, 0b0100, 0b0100, 0b0100, 0b1100]).nextC = .rampStart ∧
    State.NoReset (idle (-1) [0b0100, 0b0100, 0b0100, 0b0100, 0b1100]) (2 * 2 + 1) ∧
    2 ≤ (idle (-1) [0b0100, 0b0100, 0b0100, 0b0100, 0b1100]).afterE.target.natAbs + 1 ∧
    ((idle (-1) [0b0100, 0b0100, 0b0100, 0b0100, 0b1100]).edgeAt (1 * 2)).iw.getLsbD 3 = false ∧
    ((idle (-1) [0b0100, 0b0100, 0b0100, 0b0100, 0b1100]).edgeAt (2 * 2)).iw.getLsbD 3 = true := by
  unfold State.NoReset; decide

theorem test_meets_HoldRewritesUntilReleased :
    (holding [0b0100, 0b0011]).phase = .hold ∧ State.NoReset (holding [0b0100, 0b0011]) (1 + 1) ∧
    ((holding [0b0100, 0b0011]).edgeAt 0).iw.getLsbD 3 = false ∧
    ((holding [0b0100, 0b0011]).edgeAt 1).iw.getLsbD 3 = false := by
  unfold State.NoReset; decide

theorem test_meets_ReleaseDisablesWithinOneInterval :
    (Inv (ramping [0b1100, 0b1100]) ∧ (ramping [0b1100, 0b1100]).cfg.wf = true ∧
      State.NoReset (ramping [0b1100, 0b1100]) 2 ∧
      (∀ j, j < 2 → ((ramping [0b1100, 0b1100]).edgeAt j).iw.getLsbD 3 = true)) ∧
    (Inv (holding [0b1100, 0b1100]) ∧ State.NoReset (holding [0b1100, 0b1100]) 2 ∧
      (∀ j, j < 2 → ((holding [0b1100, 0b1100]).edgeAt j).iw.getLsbD 3 = true)) :=
  ⟨⟨releasedRamp_inv, rfl, by unfold State.NoReset; decide, by decide⟩, releasedHold_inv,
    by unfold State.NoReset; decide, by decide⟩

theorem test_meets_PressTogglesAfterTheSettleInterval :
    (idle 5 [0b1000, 0, 0, 0b1111]).cfg.wf = true ∧ (idle 5 [0b1000, 0, 0, 0b1111]).phase = .ctrlIdle ∧
    (idle 5 [0b1000, 0, 0, 0b1111]).nextEdge.iw.getLsbD 2 = false ∧
    State.NoReset (idle 5 [0b1000, 0, 0, 0b1111]) (3 + 1) := by unfold State.NoReset; decide

theorem test_meets_HeldSelectFlipsPeriodically :
    (idle 5 (List.replicate 8 0b1000)).cfg.wf = true ∧ (idle 5 (List.replicate 8 0b1000)).phase = .ctrlIdle ∧
    State.NoReset (idle 5 (List.replicate 8 0b1000)) (2 * (3 + 1)) ∧
    (∀ j, j < 2 * (3 + 1) → ((idle 5 (List.replicate 8 0b1000)).edgeAt j).iw.getLsbD 2 = false) ∧
    0 < 2 ∧ 1 < 2 ∧ 0 ≤ (idle 5 []).cfg.tDebounce ∧ 3 ≤ (idle 5 []).cfg.tDebounce := by
  unfold State.NoReset; decide

theorem test_meets_ZeroTargetCyclesDisabled :
    (idle 0 (List.replicate 8 0b0100)).cfg.wf = true ∧ (idle 0 (List.replicate 8 0b0100)).phase = .ctrlIdle ∧
    (idle 0 (List.replicate 8 0b0100)).target = 0 ∧ State.NoReset (idle 0 (List.replicate 8 0b0100)) (2 * (3 + 1)) ∧
    (∀ j, j < 2 * (3 + 1) → ((idle 0 (List.replicate 8 0b0100)).edgeAt j).iw.getLsbD 3 = false ∧
      ((idle 0 (List.replicate 8 0b0100)).edgeAt j).iw.getLsbD 2 = true ∧
      ((idle 0 (List.replicate 8 0b0100)).edgeAt j).iw.getLsbD 0 = false) ∧
    1 ≤ 1 ∧ 1 ≤ 2 * (3 + 1) ∧ 1 % (3 + 1) ≠ 0 ∧ 1 ≤ 8 ∧ 8 ≤ 2 * (3 + 1) ∧ 8 % (3 + 1) = 0 := by
  unfold State.NoReset; decide

/-- A press at once, and the longest runs of both clauses. -/
theorem test_meets_EarliestControlScreenAndEnable :
    (Config.mk 1000 3 2 false).wf = true ∧
    State.NoReset (pins (State.resetWith ⟨1000, 3, 2, false⟩) [0b1000, 0b1100, 0b1100, 0b1100]) (3 + 1) ∧
    State.RunsTo (pins (State.resetWith ⟨1000, 3, 2, false⟩) [0b1000, 0b1100, 0b1100, 0b1100]) 3
      (ranTo 3 (pins (State.resetWith ⟨1000, 3, 2, false⟩) [0b1000, 0b1100, 0b1100, 0b1100])) ∧
    State.RunsTo (pins (State.resetWith ⟨1000, 3, 2, false⟩) [0b1000, 0b1100, 0b1100, 0b1100]) (3 + 1)
      (ranTo 4 (pins (State.resetWith ⟨1000, 3, 2, false⟩) [0b1000, 0b1100, 0b1100, 0b1100])) :=
  ⟨by decide, by unfold State.NoReset; decide, rfl, rfl⟩

theorem test_meets_SelectHeldAtReset :
    (Config.mk 1000 3 2 false).wf = true ∧
    (pins (State.resetWith ⟨1000, 3, 2, false⟩) [0b1001, 0, 0, 0]).nextEdge.iw.getLsbD 2 = false ∧
    State.NoReset (pins (State.resetWith ⟨1000, 3, 2, false⟩) [0b1001, 0, 0, 0]) (3 + 1) := by
  unfold State.NoReset; decide

end Sys2Proof.Tests
end

/-! The enable gate of R20: one lemma for each way an operation can treat `pwm_en`, and the view it gates (R22). -/

namespace Sys2Proof.Machine

/-- R92: the enable is part of the operation that starts the ramp. -/
theorem pwmEn_of_exec_rampStart {s t : State} (h : exec .rampStart s = .next t) : t.pwmEn = true :=
  congrArg State.pwmEn (Host.Outcome.next.inj h.symm)

/-- R117: the safe-stop disables the outputs, whatever they were. -/
@[simp] theorem State.safeStop_pwmEn (s : State) : s.safeStop.pwmEn = false := by
  rw [safeStop_eq]

/-- R93, R97, R99: the three operations that enter the safe-stop are that one shared operation. -/
theorem exec_eq_safeStop {i : Instr} (hi : i = .rampAbort ∨ i = .holdRelease ∨ i = .rampZero) (s : State) :
    exec i s = .next s.safeStop := by
  obtain rfl | rfl | rfl := hi <;> rfl

/-- R10, the row of `pwm_en`: no meaning but those of `RAMP_START` and of the three safe-stops writes the field. -/
theorem pwmEn_of_exec_other {i : Instr} {s t : State} (hstart : i ≠ .rampStart)
    (hstop : ¬ (i = .rampAbort ∨ i = .holdRelease ∨ i = .rampZero)) (h : exec i s = .next t) :
    t.pwmEn = s.pwmEn := by
  cases i
  case rampStart => exact absurd rfl hstart
  case rampAbort => exact absurd (.inl rfl) hstop
  case holdRelease => exact absurd (.inr (.inl rfl)) hstop
  case rampZero => exact absurd (.inr (.inr rfl)) hstop
  all_goals
    obtain rfl := Host.Outcome.next.inj h
    rfl

/-- R20: the enable after any operation. -/
theorem pwmEn_of_exec {i : Instr} {s t : State} (h : exec i s = .next t) :
    t.pwmEn = (if i = .rampStart then true
      else if i = .rampAbort ∨ i = .holdRelease ∨ i = .rampZero then false else s.pwmEn) := by
  split
  case isTrue hstart =>
    subst hstart
    exact pwmEn_of_exec_rampStart h
  case isFalse hstart =>
    split
    case isTrue hstop =>
      obtain rfl : s.safeStop = t := Host.Outcome.next.inj ((exec_eq_safeStop hstop s).symm.trans h)
      exact s.safeStop_pwmEn
    case isFalse hstop => exact pwmEn_of_exec_other hstart hstop h

/-- R22: enabled, both channels are observable. -/
theorem pwmView_of_enabled {s : State} (h : s.pwmEn = true) : s.pwmView = some (s.pulseA, s.pulseB) :=
  if_pos h

/-- R22: disabled, neither channel is. -/
theorem pwmView_of_disabled {s : State} (h : s.pwmEn = false) : s.pwmView = none :=
  if_neg (by simp [h])

/-- Settles O15: the enable after any operation, the view it gates, and item 2 of R24. -/
theorem enableGate : Obligations.EnableGate :=
  ⟨fun _ _ _ h => pwmEn_of_exec h,
    fun _ => ⟨pwmView_of_enabled, pwmView_of_disabled⟩,
    fun _ hinv => hinv.enabled_iff⟩

end Sys2Proof.Machine

/-! The input bits a tick looks at (R54): the E slot compares A while it polls, and B where A rose; the C slot compares
`sel` while it polls, and `dm` where a press, a delay or a phase that looks at no button does not decide before it. -/

namespace Sys2Proof.Machine

/-- R50: whatever the registers and the pins are, the E slot runs an operation of its own format. -/
theorem selectE_slot (s : State) (iw : InputWord) : (selectE s iw).slot = .E := by
  rw [selectE_eq]
  split_ifs <;> rfl

/-- R10, the rows of `phase` and `tmr`: no operation of the E slot writes either register. -/
theorem phase_tmr_of_exec_slotE {i : Instr} {s t : State} (hi : i.slot = .E) (h : exec i s = .next t) :
    t.phase = s.phase ∧ t.tmr = s.tmr := by
  cases i
  case encHold | encLow | encHigh | encFall | encIncM | encDecM | encIncT | encDecT =>
    obtain rfl := Host.Outcome.next.inj h
    exact ⟨rfl, rfl⟩
  all_goals cases hi

/-- R54 for the E slot: A is compared in a polling phase, B only where A rose. -/
theorem selectE_congr {s : State} {v w : InputWord}
    (ha : s.phase = .menu ∨ s.phase = .ctrlIdle → inA v = inA w)
    (hb : s.phase = .menu ∨ s.phase = .ctrlIdle → s.lastA = false → inA v = true → inB v = inB w) :
    selectE s v = selectE s w := by
  simp only [selectE_eq]
  split
  case isFalse => rfl
  case isTrue hpoll =>
    rw [← ha hpoll]
    cases hl : s.lastA
    case true => rfl
    case false =>
      cases hav : inA v
      case false => rfl
      case true => rw [hb hpoll hl hav]

/-- R54 for the C slot: `sel` is compared in a polling phase; `dm` in `CTRL_IDLE` without a press, at a step tick of
`RAMP`, and in `HOLD`. -/
theorem selectC_congr {s : State} {v w : InputWord}
    (hsel : s.phase = .menu ∨ s.phase = .ctrlIdle → inSel v = inSel w)
    (hdm : (s.phase = .ctrlIdle ∧ inSel v = false) ∨ (s.phase = .ramp ∧ s.tmr = 0) ∨ s.phase = .hold →
      inDm v = inDm w) :
    selectC s v = selectC s w := by
  simp only [selectC_eq]
  cases hp : s.phase
  case menu => simp only [hsel (.inl hp)]
  case ctrlIdle =>
    cases hs : inSel v
    case true => simp only [← hsel (.inr hp), hs, if_true]
    case false => simp only [← hsel (.inr hp), hs, hdm (.inl ⟨hp, hs⟩)]
  case ramp =>
    by_cases ht : s.tmr = 0
    · simp only [hdm (.inr (.inl ⟨hp, ht⟩))]
    · simp only [ht, if_false]
  case hold => simp only [hdm (.inr (.inr hp))]
  case menuDb | ctrlDb | settle | slave => rfl

/-- R54: two input words that agree on every bit the tick's two operations compare give one tick result. The conditions
read the state before the tick, because the E slot leaves the registers they name. -/
theorem tick_congr {s : State} {v w : InputWord}
    (ha : s.phase = .menu ∨ s.phase = .ctrlIdle → inA v = inA w)
    (hb : s.phase = .menu ∨ s.phase = .ctrlIdle → s.lastA = false → inA v = true → inB v = inB w)
    (hsel : s.phase = .menu ∨ s.phase = .ctrlIdle → inSel v = inSel w)
    (hdm : (s.phase = .ctrlIdle ∧ inSel v = false) ∨ (s.phase = .ramp ∧ s.tmr = 0) ∨ s.phase = .hold →
      inDm v = inDm w) :
    tick v s = tick w s := by
  have hE : selectE s.takeEdge v = selectE s.takeEdge w := selectE_congr ha hb
  obtain ⟨t, ht⟩ := exec_next (selectE s.takeEdge w) s.takeEdge
  obtain ⟨hphase, htmr⟩ := phase_tmr_of_exec_slotE (selectE_slot _ _) ht
  have hC : selectC t v = selectC t w :=
    selectC_congr (by simpa [hphase] using hsel) (by simpa [hphase, htmr] using hdm)
  simp only [tick, hE, ht, andThen_next, slotC, hC]

/-- Settles O32: each clause names the bits its phases compare, and `tick_congr` asks for no others. -/
theorem uncomparedInputsHaveNoEffect : Obligations.UncomparedInputsHaveNoEffect := by
  intro s v w
  refine ⟨fun hp => ?blocking, fun hp h3 => ?rampOrHold, fun hp h2 h1 h0 => ?menuOrPressed,
    fun hrise h3 h2 h0 => ?noRise⟩
  case blocking =>
    have hpoll : ¬ (s.phase = .menu ∨ s.phase = .ctrlIdle) := by grind
    have hdm : ¬ ((s.phase = .ctrlIdle ∧ inSel v = false) ∨ (s.phase = .ramp ∧ s.tmr = 0) ∨ s.phase = .hold) := by
      grind
    exact tick_congr (absurd · hpoll) (absurd · hpoll) (absurd · hpoll) (absurd · hdm)
  case rampOrHold =>
    have hpoll : ¬ (s.phase = .menu ∨ s.phase = .ctrlIdle) := by grind
    exact tick_congr (absurd · hpoll) (absurd · hpoll) (absurd · hpoll) (fun _ => congrArg not h3)
  case menuOrPressed =>
    have hdm : ¬ ((s.phase = .ctrlIdle ∧ inSel v = false) ∨ (s.phase = .ramp ∧ s.tmr = 0) ∨ s.phase = .hold) := by
      grind [inSel]
    exact tick_congr (fun _ => h0) (fun _ _ _ => h1) (fun _ => congrArg not h2) (absurd · hdm)
  case noRise =>
    exact tick_congr (fun _ => h0) (fun _ hl ha => absurd ⟨hl, ha⟩ hrise) (fun _ => congrArg not h2)
      (fun _ => congrArg not h3)

end Sys2Proof.Machine

/-! The poll of R60: what the E slot of a polling phase does, a step event at a rising edge of A and the record of the
level alone otherwise; the two step operations of the control screen (R67, R68), and the bit `t0` of the C slot's
word (R48). -/

namespace Sys2Proof.Machine

/-- R77, as the source's two numbers. -/
theorem stepSize_eq_ite (m : AdjMode) : stepSize m = if m = .coarse then 10 else 1 := by
  cases m <;> rfl

/-- R60: the cursor after an event is the clamped sum itself; storing it in two values loses nothing. -/
theorem menuIdxAfter_val (s : State) (d : Int) :
    ((menuIdxAfter s d).val : Int) = clamp ((s.menuIdx.val : Int) + d) 0 1 := by
  obtain ⟨hlo, hhi⟩ := clamp_bounds ((s.menuIdx.val : Int) + d) 0 1 (by decide)
  simp only [menuIdxAfter, menuMin, menuMax, Fin.val_ofNat]
  omega

/-- R60: the signed amount of an event, its direction read from B. -/
def pollDelta (s : State) (iw : InputWord) : Int :=
  if inB iw then stepSize s.adjMode else -stepSize s.adjMode

/-- R67, R68: on the control screen a rising edge steps the target. -/
theorem exec_selectE_of_rise_ctrlIdle {s : State} {iw : InputWord} (hp : s.phase = .ctrlIdle)
    (hl : s.lastA = false) (ha : inA iw = true) :
    exec (selectE s iw) s = .next (s.stepTarget (pollDelta s iw)) := by
  have hsel : selectE s iw = if inB iw then .encIncT else .encDecT := by simp [selectE_eq, hp, hl, ha]
  rw [hsel, pollDelta]
  cases inB iw <;> rfl

/-- R65, R66: on the menu a rising edge steps the cursor. -/
theorem exec_selectE_of_rise_menu {s : State} {iw : InputWord} (hp : s.phase = .menu)
    (hl : s.lastA = false) (ha : inA iw = true) :
    exec (selectE s iw) s = .next (s.stepMenu (pollDelta s iw)) := by
  have hsel : selectE s iw = if inB iw then .encIncM else .encDecM := by simp [selectE_eq, hp, hl, ha]
  rw [hsel, pollDelta]
  cases inB iw <;> rfl

/-- R62 to R64: a poll that sees no rising edge records the level of A, and does nothing else. -/
theorem exec_selectE_of_no_rise {s : State} {iw : InputWord} (hp : s.phase = .menu ∨ s.phase = .ctrlIdle)
    (hrise : ¬ (s.lastA = false ∧ inA iw = true)) :
    exec (selectE s iw) s = .next (s.pollA (inA iw)) := by
  rw [selectE_eq, if_pos hp]
  cases hl : s.lastA <;> cases ha : inA iw
  case false.true => exact absurd ⟨hl, ha⟩ hrise
  all_goals rfl

/-- Settles O28: at a rising edge the phase names the register that steps; without one only `lastA` is written. -/
theorem pollContract : Obligations.PollContract := by
  rintro s _ _ hp rfl rfl
  by_cases hrise : s.lastA = false ∧ s.nextEdge.iw.getLsbD 0 = true
  · have ⟨hl, ha⟩ := hrise
    simp only [if_pos hrise]
    obtain hm | hc := hp
    · refine ⟨_, exec_selectE_of_rise_menu (s := s.takeEdge) hm hl ha, ha.symm, ⟨?_, ?_⟩, rfl⟩
      · exact fun hc => nomatch hm.symm.trans hc
      · exact fun _ => ⟨menuIdxAfter_val _ _, rfl, BitVec.zero_or⟩
    · refine ⟨_, exec_selectE_of_rise_ctrlIdle (s := s.takeEdge) hc hl ha, ha.symm, ⟨?_, ?_⟩, rfl⟩
      · exact fun _ => ⟨rfl, rfl, BitVec.zero_or⟩
      · exact fun hm => nomatch hc.symm.trans hm
  · simp only [if_neg hrise]
    exact ⟨_, exec_selectE_of_no_rise (s := s.takeEdge) hp hrise, rfl, ⟨rfl, rfl, rfl⟩, rfl⟩

/-- R48: bit 2 of the C slot's word is `t0`, the zero test of the target the E slot left. -/
theorem cWord_getLsbD_two (s : State) (iw : InputWord) : (cWord s iw).getLsbD 2 = targetZero s := by
  simp only [cWord, BitVec.getLsbD_append]
  simp

theorem targetZero_iff (s : State) : targetZero s = true ↔ s.target = 0 :=
  beq_iff_eq

/-- Settles O3: the two words of the E slot's map, the step with its clamp, and `t0` from the target the step left. -/
theorem targetStepsClampAndReport : Obligations.TargetStepsClampAndReport := by
  refine ⟨by decide, fun s => ⟨?inc, ?dec⟩, fun s _ => ?t0⟩
  case inc =>
    rw [← stepSize_eq_ite]
    exact congrArg Host.Outcome.next (stepTarget_eq s (stepSize s.adjMode))
  case dec =>
    rw [← stepSize_eq_ite]
    exact congrArg Host.Outcome.next (stepTarget_eq s (-stepSize s.adjMode))
  case t0 => rw [State.nextCW, cWord_getLsbD_two, targetZero_iff]

end Sys2Proof.Machine

/-! The Speed Value Model: the target after any operation, its two writers by the sides of the clamp they can reach
(R77, R78), and the pulse mapping with its two users (R79). -/

namespace Sys2Proof.Machine

/-- R76 on the target's bounds: no event leaves the range, whatever the target was and however large the step is. -/
theorem targetAfter_bounds (s : State) (d : Int) : -100 ≤ targetAfter s d ∧ targetAfter s d ≤ 100 :=
  clamp_bounds (s.target + d) (-100) 100 (by decide)

/-- An event that cannot go below the range meets the upper side of the clamp alone. -/
theorem targetAfter_eq_min {s : State} {d : Int} (h : -100 ≤ s.target + d) :
    targetAfter s d = min (s.target + d) 100 :=
  (clamp_eq_max_min (s.target + d) (-100) 100 (by decide)).trans (max_eq_right (le_min h (by decide)))

/-- An event that cannot go above the range meets the lower side alone. -/
theorem targetAfter_eq_max {s : State} {d : Int} (h : s.target + d ≤ 100) :
    targetAfter s d = max (s.target + d) (-100) := by
  rw [max_comm, ← min_eq_left h]
  exact clamp_eq_max_min (s.target + d) (-100) 100 (by decide)

/-- R10, the row of `target`: no meaning but those of `ENC_INC_T` and `ENC_DEC_T` writes the register. -/
theorem target_of_exec_other {i : Instr} {s t : State} (hwriter : ¬ (i = .encIncT ∨ i = .encDecT))
    (h : exec i s = .next t) : t.target = s.target := by
  cases i
  case encIncT => exact absurd (.inl rfl) hwriter
  case encDecT => exact absurd (.inr rfl) hwriter
  all_goals
    obtain rfl := Host.Outcome.next.inj h
    rfl

/-- R78: every operation keeps the target in its range: the two writers clamp it, the others leave it. -/
theorem target_bounds_of_exec {i : Instr} {s t : State} (hlo : -100 ≤ s.target) (hhi : s.target ≤ 100)
    (h : exec i s = .next t) : -100 ≤ t.target ∧ t.target ≤ 100 := by
  by_cases hwriter : i = .encIncT ∨ i = .encDecT
  case pos =>
    obtain rfl | rfl := hwriter
    all_goals
      obtain rfl := Host.Outcome.next.inj h
      exact targetAfter_bounds s _
  case neg =>
    rw [target_of_exec_other hwriter h]
    exact ⟨hlo, hhi⟩

/-- Settles O12: from a target in range, a positive step can meet only the upper bound and a negative one only the
lower, so each writer's clamp is one `min` or one `max`. -/
theorem targetLaw : Obligations.TargetLaw := by
  refine ⟨rfl, rfl, rfl, rfl, fun s hlo hhi => ?_⟩
  obtain ⟨hpos, -⟩ := stepSize_pos s.adjMode
  exact ⟨⟨_, rfl, targetAfter_eq_min (by omega)⟩, ⟨_, rfl, targetAfter_eq_max (by omega)⟩,
    fun _ _ h => target_bounds_of_exec hlo hhi h⟩

/-- R79, as the source writes the mapping. -/
theorem pulseAOf_eq (n : Int) : pulseAOf n = n * 5 + 1500 := by
  simp only [pulseAOf, pulseNeutral, pulseGain]
  omega

/-- R79: channel B is the mapping of channel A at the negated offset. -/
theorem pulseBOf_eq_pulseAOf_neg (n : Int) : pulseBOf n = pulseAOf (-n) := by
  simp only [pulseBOf, pulseAOf, mul_neg, sub_eq_add_neg]

/-- R79: the mapping takes the target's range to 1000..2000 microseconds; no limiter is needed. -/
theorem pulseAOf_bounds {n : Int} (hlo : -100 ≤ n) (hhi : n ≤ 100) : 1000 ≤ pulseAOf n ∧ pulseAOf n ≤ 2000 := by
  rw [pulseAOf_eq]
  omega

/-- R79: the mirrored channel has the same range, because the range of the target is symmetric. -/
theorem pulseBOf_bounds {n : Int} (hlo : -100 ≤ n) (hhi : n ≤ 100) : 1000 ≤ pulseBOf n ∧ pulseBOf n ≤ 2000 := by
  rw [pulseBOf_eq_pulseAOf_neg]
  exact pulseAOf_bounds (by omega) (by omega)

/-- Settles O13: the mapping and its range, then `writeOffset` at the offsets of `RAMP_STEP` and `HOLD_WRITE`. -/
theorem pulseMapping : Obligations.PulseMapping := by
  refine ⟨fun n => ⟨pulseAOf_eq n, pulseBOf_eq_pulseAOf_neg n, rfl, fun hlo hhi => ?range⟩,
    fun s => ⟨⟨_, rfl, rfl, rfl, rfl⟩, ⟨_, rfl, rfl, rfl⟩⟩⟩
  case range =>
    obtain ⟨hAlo, hAhi⟩ := pulseAOf_bounds hlo hhi
    exact ⟨hAlo, hAhi, pulseBOf_bounds hlo hhi⟩

end Sys2Proof.Machine

/-! The rows of the C slot's table as masks and matches (R51, R52): every word meets the columns of the row it decodes to,
and no two rows share a word; so a row's columns select its own words and no others. -/

namespace Sys2Proof.Machine

/-- R52: every word of the C slot meets the columns of the row it decodes to. -/
theorem decodeC_meets_pattern (w : CWord) : w &&& (decodeC w).pattern.mask = (decodeC w).pattern.val := by
  revert w
  decide

/-- R51: the C slot runs an operation of its own format. -/
theorem decodeC_slot (w : CWord) : (decodeC w).slot = .C := by
  revert w
  decide

/-- R53: two rows of the C slot that agree on every bit both compare are one row. -/
theorem eq_of_patterns_agree {i j : Instr} (hi : i.slot = .C) (hj : j.slot = .C)
    (h : i.pattern.val &&& j.pattern.mask = j.pattern.val &&& i.pattern.mask) : i = j := by
  revert hi hj h
  cases i <;> cases j <;> decide

/-- R52: the C slot runs an operation exactly on the words its row's columns select. -/
theorem decodeC_eq_iff {i : Instr} (hi : i.slot = .C) (w : CWord) :
    decodeC w = i ↔ w &&& i.pattern.mask = i.pattern.val := by
  constructor
  case mp =>
    rintro rfl
    exact decodeC_meets_pattern w
  case mpr =>
    intro h
    refine eq_of_patterns_agree (decodeC_slot w) hi ?_
    rw [← decodeC_meets_pattern, ← h]
    ac_rfl

end Sys2Proof.Machine

/-! The operations that wait for an input or for nothing (R83, R84, R91): the polls of the menu and of the control
screen, and `SLAVE_WAIT`, whose phase no tick leaves. -/

namespace Sys2Proof.Machine

/-- R24, item 2, for the phases without output. -/
theorem pwmEn_false_of_inv {s : State} (hinv : Inv s) (hp : ¬ (s.phase = .ramp ∨ s.phase = .hold)) :
    s.pwmEn = false :=
  Bool.eq_false_iff.mpr (mt hinv.enabled_iff.mp hp)

/-- Settles O6: the two rows of the table, their empty meanings, and the phases item 2 of R24 leaves without output. -/
theorem pollingTicksWriteNothing : Obligations.PollingTicksWriteNothing := by
  refine ⟨fun w => ⟨decodeC_eq_iff rfl w, decodeC_eq_iff rfl w⟩, fun _ => ⟨rfl, rfl⟩,
    fun s hinv hp => pwmEn_false_of_inv hinv ?_⟩
  obtain hp | hp | hp := hp <;> simp [hp]

/-- R83: in `SLAVE` neither slot looks at an input or writes a register; a tick only takes its edge. -/
theorem step_of_slave {s : State} (hp : s.phase = .slave) (hrst : s.nextEdge.rst = false) :
    step s = .next s.takeEdge := by
  have hE (iw : InputWord) : selectE s.takeEdge iw = .encHold := by simp [selectE_eq, hp]
  have hC (iw : InputWord) : selectC s.takeEdge iw = .slaveWait := by simp [selectC_eq, hp]
  simp only [step, clockEdge, hrst, tick, slotC, hE, hC, exec, execEncHold, execSlaveWait, andThen_next]

/-- R83: a run in `SLAVE` takes its edges and does nothing else, by induction on the ticks after the first. -/
theorem runsTo_of_slave {s : State} (n : Nat) (hp : s.phase = .slave) (hn : s.NoReset (n + 1)) :
    s.RunsTo (n + 1) { s with
      wr := none, disp := 0, inputs := s.inputs.drop (n + 1), edges := s.edges + (n + 1) } := by
  have hstep : step s = .next s.takeEdge := step_of_slave hp (State.noReset_next hn)
  induction n generalizing s with
  | zero =>
    rw [List.drop_one]
    exact State.runsTo_one hstep
  | succ n ih =>
    have hrest : s.takeEdge.NoReset (n + 1) := State.noReset_step hstep hn
    have hrun := ih (s := s.takeEdge) hp hrest (step_of_slave hp (State.noReset_next hrest))
    rw [State.takeEdge_inputs, State.takeEdge_edges, List.drop_tail,
      Nat.add_right_comm s.edges 1 (n + 1)] at hrun
    exact State.runsTo_succ hstep hrun

/-- Settles O44: the row of the table, the empty meaning, and the run that never leaves the phase. -/
theorem slaveStepsToItselfForEver : Obligations.SlaveStepsToItselfForEver :=
  ⟨decodeC_eq_iff rfl, fun _ => rfl, fun _ n => runsTo_of_slave n⟩

end Sys2Proof.Machine

/-! Totality (R113): a reset edge loads the reset values, and any other edge ends in the C slot's operation, on a state the
E slot's operation has answered; no operation stops. -/

namespace Sys2Proof.Machine

/-- R126: an edge with `rst` high resets, whatever the state and the pins. -/
theorem step_of_rst {s : State} (hrst : s.nextEdge.rst = true) : step s = .next s.resetEdge := by
  simp only [step, clockEdge, hrst]

/-- R113: every clock edge leads to a next state. -/
theorem step_next (s : State) : ∃ t, step s = .next t := by
  cases hrst : s.nextEdge.rst with
  | true => exact ⟨s.resetEdge, step_of_rst hrst⟩
  | false =>
    rw [step_eq_exec_nextC s hrst]
    exact exec_next s.nextC s.afterE

/-- Settles O27: a clock edge is a reset or the two slots' operations, and every operation answers a next state. -/
theorem stepAlwaysReturnsANextState : Obligations.StepAlwaysReturnsANextState :=
  ⟨step_next, exec_next⟩

end Sys2Proof.Machine

/-! The frame of the operations, register by register (R10, the column "Written by"): an operation that is not listed
for a register leaves it; what the two slots leave of each other's registers follows. -/

namespace Sys2Proof.Machine

/-- R10, the row of `phase`. -/
theorem phase_of_exec {i : Instr} {s t : State}
    (hi : i ∉ [Instr.menuPress, .selMaster, .selSlave, .modePress, .modeToggle, .rampStart, .rampZero, .rampAbort,
      .rampDone, .holdRelease, .settleDone]) (h : exec i s = .next t) : t.phase = s.phase := by
  cases i
  case menuPress | selMaster | selSlave | modePress | modeToggle | rampStart | rampZero | rampAbort | rampDone
      | holdRelease | settleDone => simp at hi
  all_goals
    obtain rfl := Host.Outcome.next.inj h
    rfl

/-- R10, the row of `lastA`. -/
theorem lastA_of_exec {i : Instr} {s t : State} (hi : i.slot = .C ∨ i = .encHold) (h : exec i s = .next t) :
    t.lastA = s.lastA := by
  cases i
  case encLow | encHigh | encFall | encIncM | encDecM | encIncT | encDecT => simp [Instr.slot] at hi
  all_goals
    obtain rfl := Host.Outcome.next.inj h
    rfl

/-- R10, the row of `menu_idx`. -/
theorem menuIdx_of_exec {i : Instr} {s t : State} (hi : i ∉ [Instr.encIncM, .encDecM]) (h : exec i s = .next t) :
    t.menuIdx = s.menuIdx := by
  cases i
  case encIncM | encDecM => simp at hi
  all_goals
    obtain rfl := Host.Outcome.next.inj h
    rfl

/-- R10, the row of `adj_mode`. -/
theorem adjMode_of_exec {i : Instr} {s t : State} (hi : i ≠ .modeToggle) (h : exec i s = .next t) :
    t.adjMode = s.adjMode := by
  cases i
  case modeToggle => exact absurd rfl hi
  all_goals
    obtain rfl := Host.Outcome.next.inj h
    rfl

/-- R10, the row of `ramp_i`. -/
theorem rampI_of_exec {i : Instr} {s t : State} (hi : i ∉ [Instr.rampStart, .rampStep]) (h : exec i s = .next t) :
    t.rampI = s.rampI := by
  cases i
  case rampStart | rampStep => simp at hi
  all_goals
    obtain rfl := Host.Outcome.next.inj h
    rfl

/-- R10, the row of `tmr`. -/
theorem tmr_of_exec {i : Instr} {s t : State}
    (hi : i ∉ [Instr.menuPress, .modePress, .rampStart, .rampStep, .rampZero, .rampAbort, .holdRelease, .menuDbWait,
      .modeDbWait, .rampWait, .settleWait]) (h : exec i s = .next t) : t.tmr = s.tmr := by
  cases i
  case menuPress | modePress | rampStart | rampStep | rampZero | rampAbort | holdRelease | menuDbWait | modeDbWait
      | rampWait | settleWait => simp at hi
  all_goals
    obtain rfl := Host.Outcome.next.inj h
    rfl

/-- R10, the rows of the pair, which is written together with its event (R109). -/
theorem pair_of_exec {i : Instr} {s t : State} (hi : i ∉ [Instr.rampStart, .rampStep, .holdWrite])
    (h : exec i s = .next t) : t.pulseA = s.pulseA ∧ t.pulseB = s.pulseB ∧ t.wr = s.wr := by
  cases i
  case rampStart | rampStep | holdWrite => simp at hi
  all_goals
    obtain rfl := Host.Outcome.next.inj h
    exact ⟨rfl, rfl, rfl⟩

/-- Settles O14: the rows of R10's table, one lemma each. -/
theorem registerWriters : Obligations.RegisterWriters := by
  intro i s t h
  obtain ⟨hinputs, hedges, hcfg⟩ := State.exec_environment h
  exact ⟨(phase_of_exec · h), (lastA_of_exec · h), (menuIdx_of_exec · h), (adjMode_of_exec · h),
    fun hi => target_of_exec_other (by simpa using hi) h, (rampI_of_exec · h), (tmr_of_exec · h),
    fun hi => pwmEn_of_exec_other (by simp_all) (by simp_all) h, (pair_of_exec · h), hcfg, hinputs, hedges⟩

/-- R69(f): an operation of the E slot writes at most the target, the cursor, `lastA` and a redraw request. -/
theorem exec_slotE_frame {i : Instr} {s t : State} (hi : i.slot = .E) (h : exec i s = .next t) :
    { t with target := s.target, menuIdx := s.menuIdx, lastA := s.lastA, disp := s.disp } = s := by
  cases i
  case encHold | encLow | encHigh | encFall | encIncM | encDecM | encIncT | encDecT =>
    obtain rfl := Host.Outcome.next.inj h
    rfl
  all_goals cases hi

/-- An operation of the C slot writes none of the encoder unit's three registers. -/
theorem exec_slotC_frame {i : Instr} {s t : State} (hi : i.slot = .C) (h : exec i s = .next t) :
    t.target = s.target ∧ t.menuIdx = s.menuIdx ∧ t.lastA = s.lastA := by
  refine ⟨target_of_exec_other ?_ h, menuIdx_of_exec ?_ h, lastA_of_exec (.inl hi) h⟩
  · rintro (rfl | rfl) <;> cases hi
  · intro hm
    simp only [List.mem_cons, List.not_mem_nil, or_false] at hm
    obtain rfl | rfl := hm <;> cases hi

end Sys2Proof.Machine

/-! What the E slot leaves to the C slot of its tick (R60, R105): the state with the edge taken, in a polling phase with
the level of A recorded, and at a rising edge with the phase's own register stepped. -/

namespace Sys2Proof.Machine

/-- R50: the E slot runs an operation of its own format. -/
theorem nextE_slot (s : State) : s.nextE.slot = .E :=
  selectE_slot s.takeEdge s.nextEdge.iw

/-- R50, with the registers at the start of the tick. -/
theorem nextE_eq (s : State) :
    s.nextE =
      if s.phase = .menu ∨ s.phase = .ctrlIdle then
        if s.lastA then (if inA s.nextEdge.iw then .encHigh else .encFall)
        else if inA s.nextEdge.iw then
          (if s.phase = .ctrlIdle then (if inB s.nextEdge.iw then .encIncT else .encDecT)
           else (if inB s.nextEdge.iw then .encIncM else .encDecM))
        else .encLow
      else .encHold :=
  selectE_eq s.takeEdge s.nextEdge.iw

/-- The E slot's operation has one result. -/
theorem afterE_eq_of_exec {s t : State} (h : exec s.nextE s.takeEdge = .next t) : s.afterE = t :=
  Host.Outcome.next.inj ((exec_nextE s).symm.trans h)

/-- R61: outside the polling phases the E slot does nothing. -/
theorem afterE_of_no_poll {s : State} (hp : ¬ (s.phase = .menu ∨ s.phase = .ctrlIdle)) : s.afterE = s.takeEdge := by
  refine afterE_eq_of_exec ?_
  rw [nextE_eq, if_neg hp]
  rfl

/-- R62 to R64: a poll without a rising edge records the level of A. -/
theorem afterE_of_no_rise {s : State} (hp : s.phase = .menu ∨ s.phase = .ctrlIdle)
    (hrise : ¬ (s.lastA = false ∧ inA s.nextEdge.iw = true)) : s.afterE = s.takeEdge.pollA (inA s.nextEdge.iw) :=
  afterE_eq_of_exec (exec_selectE_of_no_rise (s := s.takeEdge) hp hrise)

/-- R65, R66: a rising edge on the menu. -/
theorem afterE_of_rise_menu {s : State} (hp : s.phase = .menu) (hl : s.lastA = false)
    (ha : inA s.nextEdge.iw = true) : s.afterE = s.takeEdge.stepMenu (pollDelta s s.nextEdge.iw) :=
  afterE_eq_of_exec (exec_selectE_of_rise_menu (s := s.takeEdge) hp hl ha)

/-- R67, R68: a rising edge on the control screen. -/
theorem afterE_of_rise_ctrlIdle {s : State} (hp : s.phase = .ctrlIdle) (hl : s.lastA = false)
    (ha : inA s.nextEdge.iw = true) : s.afterE = s.takeEdge.stepTarget (pollDelta s s.nextEdge.iw) :=
  afterE_eq_of_exec (exec_selectE_of_rise_ctrlIdle (s := s.takeEdge) hp hl ha)

/-- R69(f) for a tick: the C slot meets the control unit's registers as the tick found them, and no pair event. -/
theorem afterE_frame (s : State) :
    { s.afterE with target := s.target, menuIdx := s.menuIdx, lastA := s.lastA, disp := 0 } = s.takeEdge :=
  exec_slotE_frame (nextE_slot s) (exec_nextE s)

@[simp] theorem State.afterE_phase (s : State) : s.afterE.phase = s.phase :=
  (congrArg State.phase (afterE_frame s) :)
@[simp] theorem State.afterE_adjMode (s : State) : s.afterE.adjMode = s.adjMode :=
  (congrArg State.adjMode (afterE_frame s) :)
@[simp] theorem State.afterE_rampI (s : State) : s.afterE.rampI = s.rampI :=
  (congrArg State.rampI (afterE_frame s) :)
@[simp] theorem State.afterE_tmr (s : State) : s.afterE.tmr = s.tmr :=
  (congrArg State.tmr (afterE_frame s) :)
@[simp] theorem State.afterE_pwmEn (s : State) : s.afterE.pwmEn = s.pwmEn :=
  (congrArg State.pwmEn (afterE_frame s) :)
@[simp] theorem State.afterE_pulseA (s : State) : s.afterE.pulseA = s.pulseA :=
  (congrArg State.pulseA (afterE_frame s) :)
@[simp] theorem State.afterE_pulseB (s : State) : s.afterE.pulseB = s.pulseB :=
  (congrArg State.pulseB (afterE_frame s) :)
@[simp] theorem State.afterE_wr (s : State) : s.afterE.wr = none :=
  (congrArg State.wr (afterE_frame s) :)
@[simp] theorem State.afterE_cfg (s : State) : s.afterE.cfg = s.cfg :=
  (congrArg State.cfg (afterE_frame s) :)

/-- R17: what a poll records, and that a tick without one leaves `lastA` stale. -/
theorem afterE_lastA (s : State) :
    s.afterE.lastA = if s.phase = .menu ∨ s.phase = .ctrlIdle then inA s.nextEdge.iw else s.lastA := by
  by_cases hp : s.phase = .menu ∨ s.phase = .ctrlIdle
  case neg => rw [afterE_of_no_poll hp, if_neg hp, State.takeEdge_lastA]
  case pos =>
    rw [if_pos hp]
    by_cases hrise : s.lastA = false ∧ inA s.nextEdge.iw = true
    case neg => rw [afterE_of_no_rise hp hrise, State.pollA, State.setLastA_lastA]
    case pos =>
      obtain ⟨hl, ha⟩ := hrise
      obtain hm | hc := hp
      · rw [afterE_of_rise_menu hm hl ha, stepMenu_eq, ha]
      · rw [afterE_of_rise_ctrlIdle hc hl ha, stepTarget_eq, ha]

/-- R69(e): the E slot steps the target in `CTRL_IDLE` alone, and there by one clamped step at most. -/
theorem afterE_target (s : State) :
    s.afterE.target =
      if s.phase = .ctrlIdle ∧ s.lastA = false ∧ inA s.nextEdge.iw = true
      then targetAfter s (pollDelta s s.nextEdge.iw) else s.target := by
  by_cases hrise : s.lastA = false ∧ inA s.nextEdge.iw = true
  case pos =>
    obtain ⟨hl, ha⟩ := hrise
    by_cases hc : s.phase = .ctrlIdle
    case pos =>
      rw [afterE_of_rise_ctrlIdle hc hl ha, stepTarget_eq, if_pos ⟨hc, hl, ha⟩]
      rfl
    case neg =>
      rw [if_neg (fun h => hc h.1)]
      by_cases hm : s.phase = .menu
      · rw [afterE_of_rise_menu hm hl ha, stepMenu_eq, State.takeEdge_target]
      · rw [afterE_of_no_poll (by simp [hm, hc]), State.takeEdge_target]
  case neg =>
    rw [if_neg (fun h => hrise h.2)]
    by_cases hp : s.phase = .menu ∨ s.phase = .ctrlIdle
    · rw [afterE_of_no_rise hp hrise, State.pollA, State.setLastA_target, State.takeEdge_target]
    · rw [afterE_of_no_poll hp, State.takeEdge_target]

theorem afterE_target_of_ne {s : State} (hp : s.phase ≠ .ctrlIdle) : s.afterE.target = s.target := by
  rw [afterE_target, if_neg (fun h => hp h.1)]

/-- Outside the menu the E slot leaves the cursor. -/
theorem afterE_menuIdx_of_ne {s : State} (hp : s.phase ≠ .menu) : s.afterE.menuIdx = s.menuIdx := by
  have hother : s.nextE ∉ [Instr.encIncM, .encDecM] := by
    rw [nextE_eq]
    split_ifs <;> simp_all
  exact (menuIdx_of_exec hother (exec_nextE s) :)

end Sys2Proof.Machine

/-! What the C slot does (R51, R105): by operation, the condition under which it is the one selected; and a tick as that
operation on what the E slot left. -/

namespace Sys2Proof.Machine

/-- R51 read by operation: when the C slot runs it, on the state the E slot left and the sample. -/
def SelectedC (s : State) (iw : InputWord) : Instr → Prop
  | .menuPoll => s.phase = .menu ∧ inSel iw = false
  | .menuPress => s.phase = .menu ∧ inSel iw = true
  | .menuDbWait => s.phase = .menuDb ∧ s.tmr ≠ 0
  | .selMaster => s.phase = .menuDb ∧ s.tmr = 0 ∧ s.menuIdx = 0
  | .selSlave => s.phase = .menuDb ∧ s.tmr = 0 ∧ s.menuIdx = 1
  | .modePress => s.phase = .ctrlIdle ∧ inSel iw = true
  | .idlePoll => s.phase = .ctrlIdle ∧ inSel iw = false ∧ inDm iw = false
  | .rampStart => s.phase = .ctrlIdle ∧ inSel iw = false ∧ inDm iw = true ∧ s.target ≠ 0
  | .rampZero => s.phase = .ctrlIdle ∧ inSel iw = false ∧ inDm iw = true ∧ s.target = 0
  | .modeDbWait => s.phase = .ctrlDb ∧ s.tmr ≠ 0
  | .modeToggle => s.phase = .ctrlDb ∧ s.tmr = 0
  | .rampWait => s.phase = .ramp ∧ s.tmr ≠ 0
  | .rampAbort => s.phase = .ramp ∧ s.tmr = 0 ∧ inDm iw = false
  | .rampStep => s.phase = .ramp ∧ s.tmr = 0 ∧ inDm iw = true ∧ s.rampI < s.target.natAbs
  | .rampDone => s.phase = .ramp ∧ s.tmr = 0 ∧ inDm iw = true ∧ s.target.natAbs ≤ s.rampI
  | .holdWrite => s.phase = .hold ∧ inDm iw = true
  | .holdRelease => s.phase = .hold ∧ inDm iw = false
  | .settleWait => s.phase = .settle ∧ s.tmr ≠ 0
  | .settleDone => s.phase = .settle ∧ s.tmr = 0
  | .slaveWait => s.phase = .slave
  | .encHold | .encLow | .encHigh | .encFall | .encIncM | .encDecM | .encIncT | .encDecT => False

/-- R12: the cursor has two values. -/
theorem menuIdx_ne_one_iff (i : Fin 2) : i ≠ 1 ↔ i = 0 := by
  revert i
  decide

/-- R51: the operation selected meets its own condition. -/
theorem selectedC_selectC (s : State) (iw : InputWord) : SelectedC s iw (selectC s iw) := by
  rw [selectC_eq]
  cases hp : s.phase
  case slave => exact hp
  all_goals
    dsimp only
    split_ifs <;> simp_all [SelectedC, menuIdx_ne_one_iff]

/-- R51, R53: the condition of an operation selects it and no other. -/
theorem selectC_eq_iff (s : State) (iw : InputWord) (i : Instr) : selectC s iw = i ↔ SelectedC s iw i := by
  refine ⟨fun h => h ▸ selectedC_selectC s iw, fun h => ?_⟩
  rw [selectC_eq]
  cases i <;> simp_all [SelectedC]

theorem nextC_eq_iff (s : State) (i : Instr) : s.nextC = i ↔ SelectedC s.afterE s.nextEdge.iw i :=
  selectC_eq_iff s.afterE s.nextEdge.iw i

theorem selectedC_nextC (s : State) : SelectedC s.afterE s.nextEdge.iw s.nextC :=
  selectedC_selectC s.afterE s.nextEdge.iw

theorem nextC_slot (s : State) : s.nextC.slot = .C :=
  decodeC_slot s.nextCW

/-- R105: what a tick that led to t has run in its C slot. -/
theorem exec_nextC {s t : State} (hrst : s.nextEdge.rst = false) (h : step s = .next t) :
    exec s.nextC s.afterE = .next t :=
  (step_eq_exec_nextC s hrst).symm.trans h

/-- A tick whose C slot is known to run i leads where i leads from what the E slot left. -/
theorem step_of_nextC {s t : State} {i : Instr} (hrst : s.nextEdge.rst = false) (hi : s.nextC = i)
    (h : exec i s.afterE = .next t) : step s = .next t := by
  rw [step_eq_exec_nextC s hrst, hi, h]

/-- The C slot leaves the encoder unit's registers as the E slot left them. -/
theorem tick_encoderRegs {s t : State} (hrst : s.nextEdge.rst = false) (h : step s = .next t) :
    t.target = s.afterE.target ∧ t.menuIdx = s.afterE.menuIdx ∧ t.lastA = s.afterE.lastA :=
  exec_slotC_frame (nextC_slot s) (exec_nextC hrst h)

end Sys2Proof.Machine

/-! The invariants of R24 are kept: one lemma for each thing an operation does to the state, then the two slots. -/

namespace Sys2Proof.Machine

/-- The strobes and the environment's edges are in no item of R24. -/
theorem inv_takeEdge {s : State} (h : Inv s) : Inv s.takeEdge := by
  cases h; constructor <;> assumption

theorem inv_emitDisp {s : State} (k : DispKind) (h : Inv s) : Inv (s.emitDisp k) := by
  cases h; constructor <;> assumption

theorem inv_pollA {s : State} (a : Bool) (h : Inv s) : Inv (s.pollA a) := by
  cases h; constructor <;> assumption

/-- Outside `SLAVE` the cursor is free (item 10). -/
theorem inv_stepMenu {s : State} (d : Int) (hp : s.phase = .menu) (h : Inv s) : Inv (s.stepMenu d) := by
  rw [stepMenu_eq]
  constructor
  case slave_state => simp [hp]
  all_goals cases h; assumption

/-- In `CTRL_IDLE` no item but the range speaks of the target. -/
theorem inv_stepTarget {s : State} (d : Int) (hp : s.phase = .ctrlIdle) (h : Inv s) : Inv (s.stepTarget d) := by
  rw [stepTarget_eq]
  constructor
  case target_range => exact targetAfter_bounds s d
  case ramp_count | hold_count | ramp_pair | hold_pair | menu_state | slave_state => simp [hp]
  all_goals cases h; assumption

/-- The E slot keeps the invariants. -/
theorem inv_afterE {s : State} (h : Inv s) : Inv s.afterE := by
  by_cases hp : s.phase = .menu ∨ s.phase = .ctrlIdle
  case neg =>
    rw [afterE_of_no_poll hp]
    exact inv_takeEdge h
  case pos =>
    by_cases hrise : s.lastA = false ∧ inA s.nextEdge.iw = true
    case neg =>
      rw [afterE_of_no_rise hp hrise]
      exact inv_pollA _ (inv_takeEdge h)
    case pos =>
      obtain ⟨hl, ha⟩ := hrise
      obtain hm | hc := hp
      · rw [afterE_of_rise_menu hm hl ha]
        exact inv_stepMenu _ hm (inv_takeEdge h)
      · rw [afterE_of_rise_ctrlIdle hc hl ha]
        exact inv_stepTarget _ hc (inv_takeEdge h)

/-- A delay runs down (items 3 and 4). -/
theorem inv_countDown {s : State} (h : Inv s) : Inv s.countDown := by
  obtain ⟨hrange, hen, htIdle, htSettle, htRamp, hrest⟩ := h
  rw [countDown_eq]
  constructor
  case timer_idle => exact fun hp => by simp [htIdle hp]
  case timer_settle => exact fun hp => (Nat.sub_le _ _).trans (htSettle hp)
  case timer_ramp => exact fun hp => (Nat.sub_le _ _).trans (htRamp hp)
  all_goals assumption

/-- A press starts a settle interval, with the outputs disabled as they were. -/
theorem inv_press {s : State} {p : Phase} (hp : s.phase = .menu ∧ p = .menuDb ∨ s.phase = .ctrlIdle ∧ p = .ctrlDb)
    (h : Inv s) : Inv ((s.startDelay s.cfg.tDebounce).setPhase p) := by
  have hen : s.pwmEn = false := pwmEn_false_of_inv h (by grind)
  constructor
  case menu_state =>
    obtain ⟨hm, rfl⟩ | ⟨-, rfl⟩ := hp
    · exact fun _ => h.menu_state (.inl hm)
    · simp
  case target_range | mirror | pair_range | count_range => cases h; assumption
  all_goals obtain ⟨-, rfl⟩ | ⟨-, rfl⟩ := hp <;> simp [startDelay_eq, hen]

/-- R117: the safe-stop keeps the invariants from anywhere. -/
theorem inv_safeStop {s : State} (h : Inv s) : Inv s.safeStop := by
  rw [safeStop_eq]
  constructor
  case target_range | mirror | pair_range | count_range => cases h; assumption
  all_goals simp

/-- A settle interval ends in `CTRL_IDLE`, in either adjustment mode. -/
theorem inv_toCtrlIdle {s : State} (m : AdjMode) (ht : s.tmr = 0) (hp : ¬ (s.phase = .ramp ∨ s.phase = .hold))
    (h : Inv s) : Inv ((s.setAdjMode m).setPhase .ctrlIdle) := by
  constructor
  case target_range | mirror | pair_range | count_range => cases h; assumption
  all_goals simp [ht, pwmEn_false_of_inv h hp]

/-- R89: the slave screen is entered with the menu's registers and the cursor on item 1. -/
theorem inv_toSlave {s : State} (hp : s.phase = .menuDb) (ht : s.tmr = 0) (hi : s.menuIdx = 1) (h : Inv s) :
    Inv (s.setPhase .slave) := by
  obtain ⟨htarget, hmode, hen⟩ := h.menu_state (.inr hp)
  constructor
  case target_range | mirror | pair_range | count_range => cases h; assumption
  all_goals simp [ht, hi, htarget, hmode, hen]

/-- R8, R79: an offset of at most the target's magnitude, with the target's sign, stays in the target's range. -/
theorem sign_mul_bounds {t : Int} {k : Nat} (hlo : -100 ≤ t) (hhi : t ≤ 100) (hk : k ≤ t.natAbs) :
    -100 ≤ t.sign * k ∧ t.sign * k ≤ 100 := by
  obtain hneg | rfl | hpos := lt_trichotomy t 0
  · rw [Int.sign_eq_neg_one_of_neg hneg]; omega
  · simp
  · rw [Int.sign_eq_one_of_pos hpos]; omega

/-- R95: in `RAMP`, the state after the write of step k, which the start and every step of a ramp leave. -/
theorem inv_rampWrite {s : State} {k : Nat} (hp : s.phase = .ramp) (hen : s.pwmEn = true) (ht : s.target ≠ 0)
    (hrange : -100 ≤ s.target ∧ s.target ≤ 100) (hk : k ≤ s.target.natAbs) :
    Inv (((s.setRampI k).writeOffset (s.target.sign * k)).startDelay s.cfg.tRamp) := by
  obtain ⟨hlo, hhi⟩ := hrange
  obtain ⟨holo, hohi⟩ := sign_mul_bounds hlo hhi hk
  obtain ⟨hA, hA'⟩ := pulseAOf_bounds holo hohi
  rw [startDelay_eq, writeOffset_eq]
  constructor
  case target_range => exact ⟨hlo, hhi⟩
  case ramp_count => exact fun _ => ⟨ht, hk⟩
  case ramp_pair =>
    intro _
    simp only [pulseAOf, pulseBOf, pulseNeutral, pulseGain, State.setRampI_target, State.setRampI_rampI]
    constructor <;> ring
  case mirror => exact pulse_mirror _
  case pair_range => exact ⟨hA, hA', pulseBOf_bounds holo hohi⟩
  case count_range => exact hk.trans (by omega)
  all_goals simp [hp, hen]

/-- R92: the ramp starts at step 0. -/
theorem inv_rampStart {s t : State} (ht : s.target ≠ 0) (h : Inv s) (hex : exec .rampStart s = .next t) : Inv t := by
  obtain rfl := Host.Outcome.next.inj hex
  have hwrite := inv_rampWrite (s := (s.setPwmEn true).setPhase .ramp) (k := 0) rfl rfl ht h.target_range
    (Nat.zero_le _)
  rw [Nat.cast_zero, mul_zero] at hwrite
  exact inv_emitDisp .progress hwrite

/-- R95: one more step, still within the target's magnitude. -/
theorem inv_rampStep {s t : State} (hp : s.phase = .ramp) (hlt : s.rampI < s.target.natAbs) (h : Inv s)
    (hex : exec .rampStep s = .next t) : Inv t := by
  obtain rfl := Host.Outcome.next.inj hex
  exact inv_emitDisp .progress
    (inv_rampWrite hp (h.enabled_iff.mpr (.inl hp)) (h.ramp_count (.inl hp)).1 h.target_range hlt)

/-- R96: at the end of the ramp the pair is that of the whole target. -/
theorem inv_toHold {s : State} (hp : s.phase = .ramp) (ht : s.tmr = 0) (hge : s.target.natAbs ≤ s.rampI) (h : Inv s) :
    Inv (s.setPhase .hold) := by
  obtain ⟨hne, hle⟩ := h.ramp_count (.inl hp)
  have hcount : s.rampI = s.target.natAbs := Nat.le_antisymm hle hge
  have hoff : s.target.sign * 5 * (s.rampI : Int) = 5 * s.target := by
    rw [hcount, mul_right_comm, Int.sign_mul_natAbs, mul_comm]
  constructor
  case enabled_iff => simp [h.enabled_iff.mpr (.inl hp)]
  case timer_idle => exact fun _ => ht
  case ramp_count => exact fun _ => ⟨hne, hle⟩
  case hold_count => exact fun _ => hcount
  case hold_pair => exact fun _ => hoff ▸ h.ramp_pair hp
  case target_range | mirror | pair_range | count_range => cases h; assumption
  all_goals simp

/-- R98: the pair of the whole target is written again, as item 7 has it. -/
theorem inv_holdWrite {s : State} (hp : s.phase = .hold) (h : Inv s) : Inv (s.writeOffset s.target) := by
  obtain ⟨hA, hB⟩ := h.hold_pair hp
  have hsame : s.writeOffset s.target = { s with wr := some (pulseAOf s.target, pulseBOf s.target) } := by
    rw [writeOffset_eq, show pulseAOf s.target = s.pulseA from hA.symm, show pulseBOf s.target = s.pulseB from hB.symm]
  rw [hsame]
  cases h; constructor <;> assumption

/-- The C slot keeps the invariants: each operation where it is selected. -/
theorem inv_exec_slotC {i : Instr} {s t : State} {iw : InputWord} (h : Inv s) (hsel : SelectedC s iw i)
    (hex : exec i s = .next t) : Inv t := by
  cases i
  case menuPoll | idlePoll | slaveWait => exact Host.Outcome.next.inj hex ▸ h
  case menuDbWait | modeDbWait | rampWait | settleWait => exact Host.Outcome.next.inj hex ▸ inv_countDown h
  case rampZero | rampAbort | holdRelease => exact Host.Outcome.next.inj hex ▸ inv_safeStop h
  case menuPress => exact Host.Outcome.next.inj hex ▸ inv_press (.inl ⟨hsel.1, rfl⟩) h
  case modePress => exact Host.Outcome.next.inj hex ▸ inv_press (.inr ⟨hsel.1, rfl⟩) h
  case selMaster =>
    obtain ⟨hp, ht, -⟩ := hsel
    exact Host.Outcome.next.inj hex ▸ inv_emitDisp .ctrlScreen (inv_toCtrlIdle s.adjMode ht (by simp [hp]) h)
  case settleDone =>
    obtain ⟨hp, ht⟩ := hsel
    exact Host.Outcome.next.inj hex ▸ inv_emitDisp .ctrlScreen (inv_toCtrlIdle s.adjMode ht (by simp [hp]) h)
  case modeToggle =>
    obtain ⟨hp, ht⟩ := hsel
    exact Host.Outcome.next.inj hex ▸ inv_emitDisp .modeLabel (inv_toCtrlIdle _ ht (by simp [hp]) h)
  case selSlave =>
    obtain ⟨hp, ht, hi⟩ := hsel
    exact Host.Outcome.next.inj hex ▸ inv_emitDisp .slaveScreen (inv_toSlave hp ht hi h)
  case rampStart =>
    obtain ⟨-, -, -, ht⟩ := hsel
    exact inv_rampStart ht h hex
  case rampStep =>
    obtain ⟨hp, -, -, hlt⟩ := hsel
    exact inv_rampStep hp hlt h hex
  case rampDone =>
    obtain ⟨hp, ht, -, hge⟩ := hsel
    exact Host.Outcome.next.inj hex ▸ inv_emitDisp .ready (inv_toHold hp ht hge h)
  case holdWrite => exact Host.Outcome.next.inj hex ▸ inv_holdWrite hsel.1 h
  all_goals exact hsel.elim

/-- R28: every build's reset values meet the invariants. -/
theorem inv_resetWith (c : Config) : Inv (State.resetWith c) := by
  constructor <;> simp

/-- A reset edge loads those values. -/
theorem inv_resetEdge (s : State) : Inv s.resetEdge := by
  obtain h := inv_resetWith s.cfg
  cases h; constructor <;> assumption

/-- Settles O16: a reset edge loads a state that meets them; in a tick each slot keeps them. -/
theorem stepKeepsReachableStateInvariants : Obligations.StepKeepsReachableStateInvariants := by
  intro s t hinv hstep
  cases hrst : s.nextEdge.rst with
  | true => exact Host.Outcome.next.inj ((step_of_rst hrst).symm.trans hstep) ▸ inv_resetEdge s
  | false => exact inv_exec_slotC (inv_afterE hinv) (selectedC_nextC s) (exec_nextC hrst hstep)

/-- Settles O17: the reset values of any build, and those of the reference build. -/
theorem resetMeetsReachableStateInvariants : Obligations.ResetMeetsReachableStateInvariants :=
  ⟨inv_resetWith, inv_resetWith Config.reference⟩

end Sys2Proof.Machine

/-! The dispatch words (R47 to R53): the masks and matches of the E slot, the encoder, and the words written out. -/

namespace Sys2Proof.Machine

/-- R52: the E slot runs an operation exactly on the words its row's columns select. -/
theorem decodeE_eq_iff {i : Instr} (hi : i.slot = .E) (w : EWord) :
    decodeE w = i ↔ w.setWidth 9 &&& i.pattern.mask = i.pattern.val := by
  cases i
  case encHold | encLow | encHigh | encFall | encIncM | encDecM | encIncT | encDecT =>
    revert w
    decide
  all_goals cases hi

/-- R50: the E slot's map names operations of its own format. -/
theorem decodeE_slot (w : EWord) : (decodeE w).slot = .E := by
  revert w
  decide

/-- R52, R53: a row's format and columns select a word exactly if the decoder answers the row. -/
theorem selectedBy_iff (d : DispatchWord) (i : Instr) : i.selectedBy d = true ↔ decode d = i := by
  cases d with
  | e w =>
    simp only [Instr.selectedBy, Pattern.selects, Bool.and_eq_true, beq_iff_eq, decode]
    exact ⟨fun ⟨hi, h⟩ => (decodeE_eq_iff hi w).mpr h,
      fun h => ⟨h ▸ decodeE_slot w, (decodeE_eq_iff (h ▸ decodeE_slot w) w).mp h⟩⟩
  | c w =>
    simp only [Instr.selectedBy, Pattern.selects, Bool.and_eq_true, beq_iff_eq, decode]
    exact ⟨fun ⟨hi, h⟩ => (decodeC_eq_iff hi w).mpr h,
      fun h => ⟨h ▸ decodeC_slot w, (decodeC_eq_iff (h ▸ decodeC_slot w) w).mp h⟩⟩

/-- Settles O22: the rows of each format, and the format each map answers. -/
theorem everyDispatchWordSelectsOneOperation : Obligations.EveryDispatchWordSelectsOneOperation := by
  refine ⟨selectedBy_iff, fun ew cw => ?_⟩
  simp [TickOps.wf, decodeTick, decodeE_slot, decodeC_slot]

/-- R52: the model's family of encoding laws, for any operation. -/
theorem encodingForm (i : Instr) : Laws.EncodingForm.Statement i := by
  cases i
  exacts [Laws.EncodingForm.encHold, Laws.EncodingForm.encLow, Laws.EncodingForm.encHigh, Laws.EncodingForm.encFall,
    Laws.EncodingForm.encIncM, Laws.EncodingForm.encDecM, Laws.EncodingForm.encIncT, Laws.EncodingForm.encDecT,
    Laws.EncodingForm.menuPoll, Laws.EncodingForm.menuPress, Laws.EncodingForm.menuDbWait,
    Laws.EncodingForm.selMaster, Laws.EncodingForm.selSlave, Laws.EncodingForm.modePress,
    Laws.EncodingForm.idlePoll, Laws.EncodingForm.rampStart, Laws.EncodingForm.rampZero,
    Laws.EncodingForm.modeDbWait, Laws.EncodingForm.modeToggle, Laws.EncodingForm.rampWait,
    Laws.EncodingForm.rampAbort, Laws.EncodingForm.rampStep, Laws.EncodingForm.rampDone,
    Laws.EncodingForm.holdWrite, Laws.EncodingForm.holdRelease, Laws.EncodingForm.settleWait,
    Laws.EncodingForm.settleDone, Laws.EncodingForm.slaveWait]

/-- A word is its compared bits with its uncompared ones. -/
theorem and_or_and_not (w m : BitVec 9) : w &&& m ||| w &&& ~~~m = w := by
  ext i
  simp [← Bool.and_or_distrib_left]

/-- R50, R52: a word of the E slot is its operation's encoding with the word's own uncompared bits. -/
theorem encode_decodeE (w : EWord) : encode (decodeE w) (w.setWidth 9) = .e w := by
  have hmatch := (decodeE_eq_iff (decodeE_slot w) w).mp rfl
  rw [encode, decodeE_slot, ← hmatch, and_or_and_not, BitVec.setWidth_setWidth_of_le w (by decide),
    BitVec.setWidth_eq]

/-- R51, R52: the same for the C slot. -/
theorem encode_decodeC (w : CWord) : encode (decodeC w) w = .c w := by
  rw [encode, decodeC_slot, ← decodeC_meets_pattern, and_or_and_not]

/-- Settles O21: an encoding is selected by its own row, so it decodes to it; the other way, the compared bits of a word
are its row's. -/
theorem decodeEncodeRoundTrip : Obligations.DecodeEncodeRoundTrip :=
  ⟨fun i fill => (selectedBy_iff _ i).mp (encodingForm i fill).2, encode_decodeE, encode_decodeC⟩

/-- Settles O23: nineteen closed instances of the two maps. -/
theorem writtenOutWordsDecode : Obligations.WrittenOutWordsDecode := by
  unfold Obligations.WrittenOutWordsDecode
  decide

end Sys2Proof.Machine

/-! A table word placed for the next step (log entry 9): the registers and pins set are the ones its bits are built
from. -/

namespace Sys2Proof.Machine

/-- An 8-bit number that fits is the 5-bit word. -/
theorem decodeTableWord_eight {w : Nat} (h : w < 32) : decodeTableWord 8 w = some (decodeE (BitVec.ofNat 5 w)) := by
  simp [decodeTableWord, TableWord.toDispatch, h, decode]

/-- A 16-bit number that fits is the 9-bit word. -/
theorem decodeTableWord_sixteen {w : Nat} (h : w < 512) : decodeTableWord 16 w = some (decodeC (BitVec.ofNat 9 w)) := by
  simp [decodeTableWord, TableWord.toDispatch, h, decode]

/-- R46: the pins of a made edge read back as the inputs they were made from. -/
theorem inputs_of_edgeOf (dm sel b a : Bool) :
    inDm (edgeOf dm sel b a).iw = dm ∧ inSel (edgeOf dm sel b a).iw = sel ∧
      inB (edgeOf dm sel b a).iw = b ∧ inA (edgeOf dm sel b a).iw = a := by
  revert dm sel b a
  decide

/-- R47: the phase chosen for a pair of bits gives them. -/
theorem pollEnable_stepDst_phaseFor (pe dst : Bool) :
    pollEnable (phaseFor pe dst) = pe ∧ stepDst (phaseFor pe dst) = dst := by
  revert pe dst
  decide

/-- R47: a 5-bit word is its bits. -/
theorem eWord_of_bits (w : EWord) :
    BitVec.ofBool (w.getLsbD 4) ++ BitVec.ofBool (w.getLsbD 3) ++ BitVec.ofBool (w.getLsbD 2) ++
      BitVec.ofBool (w.getLsbD 1) ++ BitVec.ofBool (w.getLsbD 0) = w := by
  revert w
  decide

/-- R48: a 9-bit word is its phase's code and its bits. -/
theorem cWord_of_bits (w : CWord) :
    (CWord.phase w).code ++ BitVec.ofBool (w.getLsbD 5) ++ BitVec.ofBool (w.getLsbD 4) ++
      BitVec.ofBool (w.getLsbD 3) ++ BitVec.ofBool (w.getLsbD 2) ++ BitVec.ofBool (w.getLsbD 1) ++
      BitVec.ofBool (w.getLsbD 0) = w := by
  revert w
  decide

/-- The registers an E-slot word is built from, after it has been placed. -/
theorem placeE_registers (s : State) (w : EWord) :
    (s.placeE w).phase = phaseFor (w.getLsbD 4) (w.getLsbD 3) ∧ (s.placeE w).lastA = w.getLsbD 2 ∧
      (s.placeE w).nextEdge = edgeOf false false (w.getLsbD 0) (w.getLsbD 1) := by
  unfold State.placeE
  dsimp only
  split <;> exact ⟨rfl, rfl, rfl⟩

/-- R47: the next tick's `EW` is the word placed. -/
theorem nextEW_placeE (s : State) (w : EWord) : (s.placeE w).nextEW = w := by
  obtain ⟨hp, hl, he⟩ := placeE_registers s w
  obtain ⟨hpe, hdst⟩ := pollEnable_stepDst_phaseFor (w.getLsbD 4) (w.getLsbD 3)
  obtain ⟨-, -, hb, ha⟩ := inputs_of_edgeOf false false (w.getLsbD 0) (w.getLsbD 1)
  rw [State.nextEW, eWord, State.takeEdge_phase, State.takeEdge_lastA, hp, hl, he, hpe, hdst, ha, hb, eWord_of_bits]

/-- R62: with A LOW, and seen LOW, the E slot leaves every register. -/
theorem afterE_of_low {s : State} (hl : s.lastA = false) (ha : inA s.nextEdge.iw = false) : s.afterE = s.takeEdge := by
  by_cases hp : s.phase = .menu ∨ s.phase = .ctrlIdle
  case neg => exact afterE_of_no_poll hp
  case pos =>
    rw [afterE_of_no_rise hp (by simp [ha]), ha, ← hl]
    rfl

/-- The bit `t0` that a state with the given phase and `ie` can show: a zero target ends any ramp, so `t0` without `ie`
is given up in `RAMP`. -/
def placedT0 (p : Phase) (t0 ie : Bool) : Bool := t0 && (ie || !(p == Phase.ramp))

theorem placeRamp_target (s : State) (t0 ie : Bool) :
    (s.placeRamp t0 ie).target = if placedT0 s.phase t0 ie then 0 else if s.target = 0 then 1 else s.target := rfl

theorem placeRamp_rampI (s : State) (t0 ie : Bool) :
    (s.placeRamp t0 ie).rampI =
      if ie then max s.rampI (s.placeRamp t0 ie).target.natAbs
      else if s.rampI < (s.placeRamp t0 ie).target.natAbs then s.rampI else 0 := rfl

/-- The target placed shows the bit `t0` as far as a state can. -/
theorem targetZero_placeRamp (s : State) (t0 ie : Bool) :
    targetZero (s.placeRamp t0 ie) = placedT0 s.phase t0 ie := by
  rw [Bool.eq_iff_iff, targetZero_iff, placeRamp_target]
  split_ifs <;> simp_all

/-- The count placed shows the bit `ie`, and a zero target shows it too. -/
theorem rampEnd_placeRamp (s : State) (t0 ie : Bool) :
    rampEnd (s.placeRamp t0 ie) = (ie || placedT0 s.phase t0 ie) := by
  have htarget := targetZero_iff (s.placeRamp t0 ie)
  rw [targetZero_placeRamp] at htarget
  rw [Bool.eq_iff_iff, Bool.or_eq_true, htarget, rampEnd_iff, placeRamp_rampI, ← Int.natAbs_eq_zero]
  cases ie
  case true => simp
  case false =>
    simp only [Bool.false_eq_true, if_false, false_or]
    split_ifs <;> omega

/-- The registers a C-slot word is built from, after it has been placed, and the edge that comes next. -/
theorem placeC_registers (s : State) (w : CWord) :
    (s.placeC w).phase = CWord.phase w ∧ (s.placeC w).lastA = false ∧
      timerZero (s.placeC w) = w.getLsbD 5 ∧ menuBit (s.placeC w) = w.getLsbD 0 ∧
      (s.placeC w).nextEdge = edgeOf (w.getLsbD 3) (w.getLsbD 4) false false := by
  refine ⟨rfl, rfl, ?_, ?_, rfl⟩
  · change ((if w.getLsbD 5 then 0 else max s.tmr 1) == 0) = w.getLsbD 5
    cases w.getLsbD 5 <;> simp
  · change ((if w.getLsbD 0 then (1 : Fin 2) else 0) == 1) = w.getLsbD 0
    cases w.getLsbD 0 <;> rfl

/-- The two bits of target and count, after the word has been placed. -/
theorem placeC_rampBits (s : State) (w : CWord) :
    targetZero (s.placeC w) = placedT0 (CWord.phase w) (w.getLsbD 2) (w.getLsbD 1) ∧
      rampEnd (s.placeC w) = (w.getLsbD 1 || placedT0 (CWord.phase w) (w.getLsbD 2) (w.getLsbD 1)) :=
  ⟨targetZero_placeRamp _ _ _, rampEnd_placeRamp _ _ _⟩

/-- R48: no bit of `CW` is read from the strobes or the environment's edges. -/
theorem cWord_takeEdge (s : State) (iw : InputWord) : cWord s.takeEdge iw = cWord s iw := rfl

/-- R48: the `CW` the next tick builds, bit by bit that of the word placed but for `t0` and `ie`. -/
theorem nextCW_placeC (s : State) (w : CWord) :
    (s.placeC w).nextCW =
      (CWord.phase w).code ++ BitVec.ofBool (w.getLsbD 5) ++ BitVec.ofBool (w.getLsbD 4) ++
        BitVec.ofBool (w.getLsbD 3) ++ BitVec.ofBool (placedT0 (CWord.phase w) (w.getLsbD 2) (w.getLsbD 1)) ++
        BitVec.ofBool (w.getLsbD 1 || placedT0 (CWord.phase w) (w.getLsbD 2) (w.getLsbD 1)) ++
        BitVec.ofBool (w.getLsbD 0) := by
  obtain ⟨hp, hl, htz, hidx, he⟩ := placeC_registers s w
  obtain ⟨ht0, hie⟩ := placeC_rampBits s w
  obtain ⟨hdm, hsel, -, ha⟩ := inputs_of_edgeOf (w.getLsbD 3) (w.getLsbD 4) false false
  have hlow : (s.placeC w).afterE = (s.placeC w).takeEdge := afterE_of_low hl (by rw [he, ha])
  rw [State.nextCW, hlow, cWord_takeEdge, cWord, hp, htz, hidx, ht0, hie, he, hsel, hdm]

/-- A word with `ie`, or without `t0`, is one that some state shows. -/
theorem placedT0_eq {p : Phase} {t0 ie : Bool} (h : t0 = false ∨ ie = true) :
    placedT0 p t0 ie = t0 ∧ (ie || placedT0 p t0 ie) = ie := by
  obtain rfl | rfl := h <;> cases p <;> simp [placedT0]

/-- The word is the next `CW`, where some state shows it. -/
theorem nextCW_placeC_eq (s : State) {w : CWord} (h : w.getLsbD 2 = false ∨ w.getLsbD 1 = true) :
    (s.placeC w).nextCW = w := by
  obtain ⟨ht0, hie⟩ := placedT0_eq (p := CWord.phase w) h
  rw [nextCW_placeC, hie, ht0, cWord_of_bits]

/-- Outside `RAMP` it is `t0` that is kept. -/
theorem placedT0_of_ne_ramp {p : Phase} (hp : p ≠ .ramp) (t0 ie : Bool) : placedT0 p t0 ie = t0 := by
  simp [placedT0, hp]

/-- In `RAMP` it is `ie`. -/
theorem or_placedT0_ramp (t0 ie : Bool) : (ie || placedT0 .ramp t0 ie) = ie := by
  revert t0 ie
  decide

/-- The bit that is given up is one the phase's operations do not compare. -/
theorem nextC_placeC (s : State) (w : CWord) : (s.placeC w).nextC = decodeC w := by
  conv_rhs => rw [← cWord_of_bits w]
  rw [State.nextC, nextCW_placeC, decodeC_fields, decodeC_fields]
  cases CWord.phase w
  case ctrlIdle => rw [placedT0_of_ne_ramp (by decide)]
  case ramp => rw [or_placedT0_ramp]
  all_goals rfl

/-- Settles O24: the made pins, the word the placed registers build, and the operation it selects. -/
theorem placedWordIsTheOneDispatched : Obligations.PlacedWordIsTheOneDispatched := by
  refine fun s w => ⟨fun h => ⟨?_, nextEW_placeE s _, ?_⟩, fun h => ⟨rfl, fun _ hie => nextCW_placeC_eq s (.inr hie),
    fun ht0 => nextCW_placeC_eq s (.inl ht0), ?_⟩⟩
  · obtain ⟨-, -, he⟩ := placeE_registers s (BitVec.ofNat 5 w)
    exact congrArg Edge.rst he
  · rw [decodeTableWord_eight h, State.nextE, State.withFetchWord, State.placeWord, if_pos (by decide), nextEW_placeE]
  · rw [decodeTableWord_sixteen h, State.withFetchWord, State.placeWord, if_neg (by decide), nextC_placeC]

end Sys2Proof.Machine

/-! The operations one by one (R61 to R102): each is the shared operation its meaning names, and those say what is
written; a waiting operation is stated where its encoding selects it. -/

namespace Sys2Proof.Machine

/-- Settles O1: the four meanings that only record a level, or nothing. -/
theorem encoderOperationsWithoutEvent : Obligations.EncoderOperationsWithoutEvent :=
  fun _ => ⟨rfl, rfl, rfl, rfl⟩

/-- Settles O2: a step of either size moves the cursor past the end of its range, or to it. -/
theorem menuCursorStepsSaturate : Obligations.MenuCursorStepsSaturate := by
  intro s
  obtain ⟨hpos, -⟩ := stepSize_pos s.adjMode
  have hup : menuIdxAfter s (stepSize s.adjMode) = 1 := menuIdxAfter_up s _ hpos
  have hdown : menuIdxAfter s (-stepSize s.adjMode) = 0 := menuIdxAfter_down s _ (by omega)
  simp only [exec, execEncIncM, execEncDecM, stepMenu_eq, hup, hdown, DispKind.mask, and_self]

/-- R121: a waiting tick, where the timer is not 0. -/
theorem countDown_of_tmr_succ {s : State} {n : Nat} (h : s.tmr = n + 1) : s.countDown = { s with tmr := n } := by
  rw [countDown_eq, h, Nat.add_sub_cancel]

/-- R19, R72: the flip, as the source writes it. -/
theorem toggleMode_eq_ite (m : AdjMode) : toggleMode m = if m = .fine then .coarse else .fine := by
  cases m <;> rfl

theorem exec_modeToggle (s : State) :
    exec .modeToggle s = .next { s with
      adjMode := (if s.adjMode = .fine then .coarse else .fine), phase := .ctrlIdle,
      disp := s.disp ||| 0b0001000 } := by
  rw [← toggleMode_eq_ite]
  rfl

/-- Settles O4: the delay, the wait and the flip. -/
theorem modeToggleOperations : Obligations.ModeToggleOperations :=
  fun s => ⟨rfl, fun _ h => congrArg Host.Outcome.next (countDown_of_tmr_succ h), exec_modeToggle s⟩

/-- Settles O5: the delay, the wait and the two selections. -/
theorem menuSelectionOperations : Obligations.MenuSelectionOperations :=
  fun _ => ⟨rfl, fun _ h => congrArg Host.Outcome.next (countDown_of_tmr_succ h), rfl, rfl⟩

/-- Settles O7: the six writes of one meaning, at offset 0. -/
theorem rampStartEnablesAtNeutral : Obligations.RampStartEnablesAtNeutral :=
  fun _ => rfl

/-- Settles O8: the three operations are the one safe-stop. -/
theorem safeStopEntry : Obligations.SafeStopEntry := by
  intro s i hi
  rw [← safeStop_eq]
  simp only [List.mem_cons, List.not_mem_nil, or_false] at hi
  exact exec_eq_safeStop (by tauto) s

/-- R79: the pair at an offset count, as a distance from neutral in microseconds. -/
theorem pulse_of_offset {n off : Int} (h : off = n * 5) : pulseAOf n = 1500 + off ∧ pulseBOf n = 1500 - off := by
  simp only [pulseAOf, pulseBOf, pulseNeutral, pulseGain, h, mul_comm, and_self]

theorem exec_rampStep {s : State} {off : Int} (hoff : off = s.target.sign * ((s.rampI : Int) + 1) * 5) :
    exec .rampStep s = .next { s with
      rampI := s.rampI + 1, pulseA := 1500 + off, pulseB := 1500 - off, tmr := s.cfg.tRamp - 1,
      wr := some (1500 + off, 1500 - off), disp := s.disp ||| 0b0010000 } := by
  obtain ⟨hA, hB⟩ := pulse_of_offset (n := targetSign s * ((s.rampI + 1 : Nat) : Int)) hoff
  rw [← hA, ← hB]
  rfl

/-- Settles O9: the wait, the step with its offset, and the end of the ramp. -/
theorem rampRunningOperations : Obligations.RampRunningOperations :=
  fun _ => ⟨fun _ h => congrArg Host.Outcome.next (countDown_of_tmr_succ h), fun _ => exec_rampStep, rfl⟩

/-- Settles O10: the rewrite of the pair, the wait and the return. -/
theorem holdAndSettleOperations : Obligations.HoldAndSettleOperations :=
  fun _ => ⟨rfl, fun _ h => congrArg Host.Outcome.next (countDown_of_tmr_succ h), rfl⟩

/-- R76: a value that fits 8 bits is what the 8-bit pattern of it reads back as. -/
theorem toInt_ofInt_eight {v : Int} (hlo : -128 ≤ v) (hhi : v < 128) : (BitVec.ofInt 8 v).toInt = v :=
  BitVec.toInt_ofInt_eq_self (by decide) hlo hhi

/-- Settles O11: the three sides of the clamp; on the target's range a sum or difference with a step fits 8 bits. -/
theorem clampSaturatesWithoutWrap : Obligations.ClampSaturatesWithoutWrap := by
  refine ⟨fun v lo hi hle => ⟨fun h => ?_, fun h => ?_, clamp_of_mem v lo hi⟩, fun t m hlo hhi => ?_⟩
  · rw [clamp_eq_max_min v lo hi hle]
    omega
  · rw [clamp_eq_max_min v lo hi hle]
    omega
  · obtain ⟨hpos, hten⟩ := stepSize_pos m
    rw [← BitVec.ofInt_add, BitVec.sub_eq_add_neg, ← BitVec.ofInt_neg, ← BitVec.ofInt_add, ← sub_eq_add_neg]
    exact ⟨toInt_ofInt_eight (by omega) (by omega), toInt_ofInt_eight (by omega) (by omega)⟩

end Sys2Proof.Machine

/-! The reset edge and the output pins (R126, R127, R33). -/

namespace Sys2Proof.Machine

/-- Settles O19: a reset edge is the shared operation, which loads the values of R28. -/
theorem resetEdgeLoadsEveryRegister : Obligations.ResetEdgeLoadsEveryRegister :=
  ⟨fun _ hrst => step_of_rst hrst, rfl⟩

/-- Settles O20: the pins of the state a reset edge leads to. -/
theorem outputsAfterReset : Obligations.OutputsAfterReset := by
  intro s t hrst h
  obtain rfl : s.resetEdge = t := Host.Outcome.next.inj ((step_of_rst hrst).symm.trans h)
  exact ⟨rfl, pwmView_of_disabled rfl⟩

/-- R33: an 11-bit port reads back any value below 2048. -/
theorem toNat_ofInt_eleven {v : Int} (hlo : 0 ≤ v) (hhi : v < 2048) : ((BitVec.ofInt 11 v).toNat : Int) = v := by
  rw [BitVec.toNat_ofInt]
  omega

/-- R33: a one-bit port shows a flag. -/
theorem ofBool_eq_one_iff (b : Bool) : BitVec.ofBool b = 1 ↔ b = true := by
  revert b
  decide

/-- R14: in the states of R24 the timer is at most the longest delay's first value. -/
theorem tmr_le_of_inv {s : State} (h : Inv s) : s.tmr ≤ max s.cfg.tDebounce s.cfg.tRamp - 1 := by
  cases hp : s.phase
  case menu | ctrlIdle | hold | slave => simp [h.timer_idle (by simp [hp])]
  case menuDb | ctrlDb | settle => exact (h.timer_settle (by simp [hp])).trans (by omega)
  case ramp => exact (h.timer_ramp hp).trans (by omega)

/-- R5: the width `TMR_W` holds every value up to the bound it is made from. -/
theorem lt_two_pow_tmrW {c : Config} {n : Nat} (h : n ≤ max c.tDebounce c.tRamp - 1) : n < 2 ^ c.tmrW := by
  unfold Config.tmrW
  split
  case h_1 hz => simp_all
  case h_2 m hm => exact (hm ▸ h).trans_lt Nat.lt_log2_self

/-- Settles O18: each port's width holds its register's range in R24. -/
theorem registersFitTheirPorts : Obligations.RegistersFitTheirPorts := by
  intro s h
  obtain ⟨htlo, hthi⟩ := h.target_range
  obtain ⟨hAlo, hAhi, hBlo, hBhi⟩ := h.pair_range
  have hcount := h.count_range
  refine ⟨toInt_ofInt_eight (by omega) (by omega), toNat_ofInt_eleven (by omega) (by omega),
    toNat_ofInt_eleven (by omega) (by omega), ?ramp_i, ?menu_idx, ofBool_eq_one_iff _, ?pwm_wr, ?opmode, ?adj_mode,
    fun _ => rfl, lt_two_pow_tmrW (tmr_le_of_inv h)⟩
  case ramp_i =>
    change s.rampI % 2 ^ 7 = s.rampI
    omega
  case menu_idx =>
    change s.menuIdx.val % 2 ^ 1 = s.menuIdx.val
    omega
  case pwm_wr => exact (ofBool_eq_one_iff _).trans (by simp [Option.isSome_iff_exists])
  case opmode =>
    unfold State.ports State.opMode
    cases s.phase <;> rfl
  case adj_mode =>
    unfold State.ports
    cases s.adjMode <;> rfl

end Sys2Proof.Machine

/-! A tick is its two operations in order (R105), reads no strobe back (R110), and is the whole-tick pseudocode
(R106). -/

namespace Sys2Proof.Machine

/-- Settles O25: the tick's two dispatches, run in the order of the slots. -/
theorem stepRunsTheDecodedOperations : Obligations.StepRunsTheDecodedOperations := by
  intro s s1 s2 e c iw hedge he hexe hc hexc
  subst he hc
  have hE : exec (selectE s.takeEdge iw) s.takeEdge = .next s1 := hexe
  have hC : slotC iw s1 = .next s2 := hexc
  simp only [step, clockEdge, hedge, tick, hE, andThen_next, hC]

/-- Settles O39: a step reads its state through the reset edge and the taken edge, and neither keeps a strobe. -/
theorem strobesAreNeverReadBack : Obligations.StrobesAreNeverReadBack := by
  intro s t w d h
  have hreset : State.resetEdge { s with wr := w, disp := d } = s.resetEdge := rfl
  have htake : State.takeEdge { s with wr := w, disp := d } = s.takeEdge := rfl
  have hedge : State.nextEdge { s with wr := w, disp := d } = s.nextEdge := rfl
  simpa only [step, clockEdge, tick, hreset, htake, hedge] using h

/-- R106, the E slot: by whether the tick polls, whether A rises, and on which screen. -/
theorem exec_selectE_eq_wholeTickE (s : State) (iw : InputWord) :
    exec (selectE s iw) s = .next (wholeTickE iw s) := by
  unfold wholeTickE
  by_cases hp : s.phase = .menu ∨ s.phase = .ctrlIdle
  case neg =>
    rw [selectE_eq, if_neg hp]
    exact congrArg Host.Outcome.next (if_neg hp).symm
  case pos =>
    by_cases hrise : s.lastA = false ∧ inA iw = true
    case neg =>
      rw [exec_selectE_of_no_rise hp hrise]
      exact congrArg Host.Outcome.next ((if_pos hp).trans (if_neg hrise)).symm
    case pos =>
      have ⟨hl, ha⟩ := hrise
      by_cases hc : s.phase = .ctrlIdle
      · rw [exec_selectE_of_rise_ctrlIdle hc hl ha, pollDelta, stepSize_eq_ite]
        refine congrArg Host.Outcome.next (Eq.trans ?_ ((if_pos hp).trans ((if_pos hrise).trans (if_pos hc))).symm)
        rw [show iw.getLsbD 0 = true from ha]
        rfl
      · rw [exec_selectE_of_rise_menu (hp.resolve_right hc) hl ha, pollDelta, stepSize_eq_ite]
        refine congrArg Host.Outcome.next (Eq.trans ?_ ((if_pos hp).trans ((if_pos hrise).trans (if_neg hc))).symm)
        rw [show iw.getLsbD 0 = true from ha]
        rfl

/-- R106, the C slot: the branch of the pseudocode is the operation selected there. -/
theorem exec_eq_wholeTickC {s : State} {iw : InputWord} {i : Instr} (h : SelectedC s iw i) :
    exec i s = .next (wholeTickC iw s) := by
  obtain ⟨phase, lastA, menuIdx, adjMode, target, rampI, tmr, pwmEn, pulseA, pulseB, wr, disp, cfg, inputs, edges⟩ := s
  cases i
  case encHold | encLow | encHigh | encFall | encIncM | encDecM | encIncT | encDecT => exact h.elim
  all_goals simp only [SelectedC, inSel, inDm, Bool.not_eq_true', Bool.not_eq_false'] at h
  case modeToggle => simp [exec_modeToggle, wholeTickC, h]
  case rampStep => simp [exec_rampStep rfl, wholeTickC, h, -BitVec.getLsbD_eq_getElem]
  case rampDone =>
    have hge : ¬ rampI < target.natAbs := by omega
    simp only [wholeTickC, h, hge, ne_eq, not_true_eq_false, Bool.not_false, if_false]
    rfl
  all_goals
    simp only [wholeTickC, h, ne_eq, not_true_eq_false, not_false_eq_true, Bool.not_true, Bool.not_false, if_true,
      if_false, Bool.false_eq_true]
    rfl

/-- Settles O26: slot by slot. -/
theorem stepIsTheWholeTickPseudocode : Obligations.StepIsTheWholeTickPseudocode := by
  intro s hrst
  have hE : s.afterE = wholeTickE s.nextEdge.iw s.takeEdge :=
    afterE_eq_of_exec (exec_selectE_eq_wholeTickE s.takeEdge s.nextEdge.iw)
  rw [step_eq_exec_nextC s hrst, exec_eq_wholeTickC (selectedC_nextC s), hE]
  rfl

end Sys2Proof.Machine

/-! The encoder across a tick (R17, R69): the level a tick leaves in `lastA`, how far the target can move, and the poll
that separates two events. -/

namespace Sys2Proof.Machine

/-- R17: `lastA` after a tick is what its E slot left. -/
theorem lastA_of_tick {s t : State} (hrst : s.nextEdge.rst = false) (h : step s = .next t) :
    t.lastA = if s.phase = .menu ∨ s.phase = .ctrlIdle then inA s.nextEdge.iw else s.lastA :=
  (tick_encoderRegs hrst h).2.2.trans (afterE_lastA s)

/-- Settles O29: the C slot does not write `lastA`. -/
theorem lastAIsTheLevelOfTheLastPoll : Obligations.LastAIsTheLevelOfTheLastPoll :=
  fun _ _ => lastA_of_tick

/-- R60: an event has the magnitude of the step size. -/
theorem pollDelta_natAbs (s : State) (iw : InputWord) : (pollDelta s iw).natAbs = (stepSize s.adjMode).natAbs := by
  unfold pollDelta
  split <;> simp

/-- R69(e): from a target in range the clamp only shortens a step. -/
theorem targetAfter_near {s : State} (d : Int) (hlo : -100 ≤ s.target) (hhi : s.target ≤ 100) :
    (targetAfter s d - s.target).natAbs ≤ d.natAbs := by
  have hclamp : targetAfter s d = max (-100) (min (s.target + d) 100) :=
    clamp_eq_max_min (s.target + d) (-100) 100 (by decide)
  omega

/-- R69(e): across the E slot. -/
theorem afterE_target_near {s : State} (hlo : -100 ≤ s.target) (hhi : s.target ≤ 100) :
    (s.afterE.target - s.target).natAbs ≤ (stepSize s.adjMode).natAbs := by
  rw [afterE_target]
  split
  case isTrue => exact pollDelta_natAbs s s.nextEdge.iw ▸ targetAfter_near _ hlo hhi
  case isFalse => simp

/-- Settles O30: the C slot leaves the target, and an E-slot operation leaves the control unit. -/
theorem targetMovesByAtMostOneStep : Obligations.TargetMovesByAtMostOneStep := by
  refine ⟨fun s t hrst hlo hhi h => ?tick, fun i s t hi h => ?slotE⟩
  case tick =>
    obtain ⟨htarget, -, -⟩ := tick_encoderRegs hrst h
    rw [htarget]
    have hnear := afterE_target_near hlo hhi
    obtain ⟨hpos, hten⟩ := stepSize_pos s.adjMode
    exact ⟨hnear, by omega, afterE_target_of_ne⟩
  case slotE =>
    have hframe := exec_slotE_frame hi h
    obtain ⟨hp, ht⟩ := phase_tmr_of_exec_slotE hi h
    exact ⟨hp, ht, (congrArg State.rampI hframe :), (congrArg State.adjMode hframe :),
      (congrArg State.pwmEn hframe :), (congrArg State.pulseA hframe :), (congrArg State.pulseB hframe :)⟩

/-- R60: the E slot reports an event exactly in a poll that sees A rise. -/
theorem nextE_event_iff (s : State) :
    s.nextE ∈ [Instr.encIncM, .encDecM, .encIncT, .encDecT] ↔
      (s.phase = .menu ∨ s.phase = .ctrlIdle) ∧ s.lastA = false ∧ inA s.nextEdge.iw = true := by
  rw [nextE_eq]
  split_ifs <;> simp_all

/-- R62, R64: a poll that sees A LOW. -/
theorem nextE_low {s : State} (hp : s.phase = .menu ∨ s.phase = .ctrlIdle) (ha : inA s.nextEdge.iw = false) :
    s.nextE ∈ [Instr.encLow, .encFall] := by
  rw [nextE_eq, if_pos hp, ha]
  cases s.lastA <;> simp

/-- R69(d): between a state that has seen A HIGH and one that has seen it LOW some tick has polled A LOW, by induction
on the run. -/
theorem exists_low_poll {t u : State} {n : Nat} (hn : t.NoReset n) (hrun : t.RunsTo n u) (ht : t.lastA = true)
    (hu : u.lastA = false) :
    ∃ m v, m < n ∧ t.RunsTo m v ∧ v.nextE ∈ [Instr.encLow, .encFall] ∧ inA v.nextEdge.iw = false := by
  induction n generalizing t with
  | zero =>
    rw [State.runsTo_zero_inv hrun, ht] at hu
    cases hu
  | succ n ih =>
    obtain ⟨v, hstep, hrest⟩ := State.runsTo_succ_inv hrun
    have hv := lastA_of_tick (State.noReset_next hn) hstep
    cases hlv : v.lastA
    case true =>
      obtain ⟨m, w, hm, hw, hlow⟩ := ih (State.noReset_step hstep hn) hrest hlv
      exact ⟨m + 1, w, Nat.succ_lt_succ hm, State.runsTo_succ hstep hw, hlow⟩
    case false =>
      rw [hlv, ht] at hv
      split at hv
      case isTrue hp => exact ⟨0, t, Nat.succ_pos n, State.runsTo_zero t, nextE_low hp hv.symm, hv.symm⟩
      case isFalse => cases hv

/-- Settles O31: an event leaves `lastA` HIGH, and the next one starts from LOW. -/
theorem eventsAreSeparatedByALowPoll : Obligations.EventsAreSeparatedByALowPoll := by
  intro s t u n hevent hstep hn hrun hevent'
  obtain ⟨hp, -, ha⟩ := (nextE_event_iff s).mp hevent
  obtain ⟨-, hu, -⟩ := (nextE_event_iff u).mp hevent'
  have ht : t.lastA = true := by rw [lastA_of_tick (State.noReset_next hn) hstep, if_pos hp, ha]
  exact exists_low_poll (State.noReset_step hstep hn) hrun ht hu

end Sys2Proof.Machine

/-! What the inputs decide (R116, R129, R58): the operation of each slot when several inputs are asserted, the first
poll after reset, and the two encoder stimuli. -/

namespace Sys2Proof.Machine

/-- Settles O33: the order of the tests in each phase's column. -/
theorem priorityOfSimultaneousInputs : Obligations.PriorityOfSimultaneousInputs := by
  rintro s _ _ rfl rfl
  refine ⟨fun hp => ?menu, fun hp => ?ctrlIdle, fun hp ht => ?ramp, fun hp => ?hold, ?polls⟩
  case menu => split_ifs <;> simp_all [nextC_eq_iff, SelectedC, inSel]
  case ctrlIdle => split_ifs <;> simp_all [nextC_eq_iff, SelectedC, inSel, inDm]
  case ramp =>
    have htarget : s.afterE.target = s.target := afterE_target_of_ne (by simp [hp])
    split_ifs <;> simp_all [nextC_eq_iff, SelectedC, inDm]
  case hold => split_ifs <;> simp_all [nextC_eq_iff, SelectedC, inDm]
  case polls =>
    rw [nextE_eq]
    split_ifs <;> simp_all

/-- R65, R66: after an event on the menu the cursor is at B. -/
theorem afterE_menuIdx_of_rise {s : State} (hp : s.phase = .menu) (hl : s.lastA = false)
    (ha : inA s.nextEdge.iw = true) : s.afterE.menuIdx = if inB s.nextEdge.iw then 1 else 0 := by
  obtain ⟨hpos, -⟩ := stepSize_pos s.adjMode
  rw [afterE_of_rise_menu hp hl ha, stepMenu_eq, pollDelta]
  split
  · exact menuIdxAfter_up _ _ hpos
  · exact menuIdxAfter_down _ _ (by omega)

/-- Without an event the cursor stays. -/
theorem afterE_menuIdx_of_no_rise {s : State} (hrise : ¬ (s.lastA = false ∧ inA s.nextEdge.iw = true)) :
    s.afterE.menuIdx = s.menuIdx := by
  by_cases hp : s.phase = .menu ∨ s.phase = .ctrlIdle
  · rw [afterE_of_no_rise hp hrise, State.pollA, State.setLastA_menuIdx, State.takeEdge_menuIdx]
  · rw [afterE_of_no_poll hp, State.takeEdge_menuIdx]

/-- Settles O34: the poll of the menu with `lastA` at its reset value and the cursor at 0. -/
theorem firstPollHazard : Obligations.FirstPollHazard := by
  intro s c hs
  have hp : s.phase = .menu := (congrArg State.phase hs :)
  have hl : s.lastA = c.lastAReset := (congrArg State.lastA hs :)
  have hidx : s.menuIdx = 0 := (congrArg State.menuIdx hs :)
  refine ⟨fun hc ha => ⟨?_, ?_⟩, fun hc ha => ⟨?_, ?_⟩, fun hc => ⟨?_, ?_⟩⟩
  · simp [nextE_eq, hp, hl, hc, show inA s.nextEdge.iw = true from ha, inB]
  · exact afterE_menuIdx_of_rise hp (hl.trans hc) ha
  · simp [nextE_eq, hp, hl, hc, show inA s.nextEdge.iw = false from ha]
  · rw [afterE_menuIdx_of_no_rise (by simp [hl, hc]), hidx]
  · rw [nextE_eq, if_pos (.inl hp), hl, hc, inA]
    cases s.nextEdge.iw.getLsbD 0 <;> simp
  · rw [afterE_menuIdx_of_no_rise (by simp [hl, hc, inA]), hidx]

/-- R91: in `CTRL_IDLE` with nothing pressed the tick is its poll. -/
theorem step_of_idle {s : State} (hp : s.phase = .ctrlIdle) (hrst : s.nextEdge.rst = false)
    (hsel : inSel s.nextEdge.iw = false) (hdm : inDm s.nextEdge.iw = false) : step s = .next s.afterE :=
  step_of_nextC hrst ((nextC_eq_iff s .idlePoll).mpr ⟨by simp [hp], hsel, hdm⟩) rfl

/-- R58: a poll that sees A LOW and then one that sees it HIGH, with nothing pressed, are one event. -/
theorem low_then_high_steps_target {s : State} {e₁ e₂ : Edge} {rest : List Edge} (hp : s.phase = .ctrlIdle)
    (hin : s.inputs = e₁ :: e₂ :: rest) (hrst : e₁.rst = false ∧ e₂.rst = false)
    (hsel : inSel e₁.iw = false ∧ inSel e₂.iw = false) (hdm : inDm e₁.iw = false ∧ inDm e₂.iw = false)
    (ha : inA e₁.iw = false ∧ inA e₂.iw = true) :
    s.RunsTo 2 { s with
      target := targetAfter s (pollDelta s e₂.iw), lastA := true, wr := none, disp := 0b0000100, inputs := rest,
      edges := s.edges + 2 } := by
  have he₁ : s.nextEdge = e₁ := by simp [State.nextEdge, State.edgeAt, hin]
  have hlow : s.afterE = s.takeEdge.pollA false := by
    rw [afterE_of_no_rise (.inr hp) (by simp [he₁, ha.1]), he₁, ha.1]
  have hstep : step s = .next (s.takeEdge.pollA false) := by
    rw [step_of_idle hp (by rw [he₁]; exact hrst.1) (by rw [he₁]; exact hsel.1) (by rw [he₁]; exact hdm.1), hlow]
  have he₂ : (s.takeEdge.pollA false).nextEdge = e₂ := by
    simp [State.nextEdge, State.edgeAt, State.pollA, hin]
  have hhigh : (s.takeEdge.pollA false).afterE =
      (s.takeEdge.pollA false).takeEdge.stepTarget (pollDelta s e₂.iw) := by
    rw [afterE_of_rise_ctrlIdle (s := s.takeEdge.pollA false) hp rfl (by rw [he₂]; exact ha.2), he₂]
    rfl
  have hstep' : step (s.takeEdge.pollA false) = .next (s.takeEdge.pollA false).afterE :=
    step_of_idle hp (by rw [he₂]; exact hrst.2) (by rw [he₂]; exact hsel.2) (by rw [he₂]; exact hdm.2)
  rw [hhigh, stepTarget_eq] at hstep'
  have hrun := State.runsTo_succ hstep (State.runsTo_one hstep')
  simpa [State.pollA, State.takeEdge, State.setLastA, targetAfter, hin, DispKind.mask] using hrun

/-- Settles O35: the two words of each stimulus differ in A alone, and B gives the direction. -/
theorem incAndDecStimuliAreOneEvent : Obligations.IncAndDecStimuliAreOneEvent := by
  intro s rest hp
  refine ⟨fun hin => ?inc, fun hin => ?dec⟩
  case inc =>
    exact ⟨_, low_then_high_steps_target (e₁ := ⟨false, 0b1110⟩) (e₂ := ⟨false, 0b1111⟩) hp hin (by decide) (by decide)
      (by decide) (by decide), rfl, rfl, hp, rfl, rfl⟩
  case dec =>
    exact ⟨_, low_then_high_steps_target (e₁ := ⟨false, 0b1100⟩) (e₂ := ⟨false, 0b1101⟩) hp hin (by decide) (by decide)
      (by decide) (by decide), rfl, rfl, hp, rfl, rfl⟩

end Sys2Proof.Machine

/-! Control transfer (R107): the phase an operation leads to, and the condition under which the C slot runs it. -/

namespace Sys2Proof.Machine

/-- R10, R107: the phase an operation of the table writes, where it writes one. -/
def phaseWritten : Instr → Option Phase
  | .menuPress => some .menuDb
  | .selMaster | .modeToggle | .settleDone => some .ctrlIdle
  | .selSlave => some .slave
  | .modePress => some .ctrlDb
  | .rampStart => some .ramp
  | .rampZero | .rampAbort | .holdRelease => some .settle
  | .rampDone => some .hold
  | _ => none

/-- R107: the phase after an operation. -/
theorem phase_eq_of_exec {i : Instr} {s t : State} (h : exec i s = .next t) :
    t.phase = (phaseWritten i).getD s.phase := by
  cases i
  all_goals
    obtain rfl := Host.Outcome.next.inj h
    rfl

/-- R107: the phase after a tick is the one its C slot's operation writes. -/
theorem phase_of_tick {s t : State} (hrst : s.nextEdge.rst = false) (h : step s = .next t) :
    t.phase = (phaseWritten s.nextC).getD s.phase := by
  rw [phase_eq_of_exec (exec_nextC hrst h), State.afterE_phase]

/-- Settles O36: by the C slot's operation, whose condition names the row of the table. -/
theorem phaseTransitions : Obligations.PhaseTransitions := by
  rintro s t _ _ hrst h rfl rfl
  have hsel := selectedC_nextC s
  obtain ⟨htarget, -, -⟩ := tick_encoderRegs hrst h
  have hidx : s.phase = .menuDb → s.afterE.menuIdx = s.menuIdx := fun hp => afterE_menuIdx_of_ne (by simp [hp])
  have hramp : s.phase = .ramp → s.afterE.target = s.target := fun hp => afterE_target_of_ne (by simp [hp])
  rw [phase_of_tick hrst h, htarget]
  clear h
  generalize s.nextC = i at hsel
  cases i
  case encHold | encLow | encHigh | encFall | encIncM | encDecM | encIncT | encDecT => exact hsel.elim
  case selSlave =>
    obtain ⟨hp, ht, hone⟩ := hsel
    rw [State.afterE_phase] at hp
    rw [State.afterE_tmr] at ht
    rw [hidx hp] at hone
    simp [hp, ht, hone, phaseWritten]
  all_goals
    simp only [SelectedC, State.afterE_phase, State.afterE_tmr, State.afterE_rampI, inSel, inDm] at hsel
    simp_all [phaseWritten]

end Sys2Proof.Machine

/-! The pair and its event (R109), the redraw requests (R110), and what follows for the outputs and the operating mode
(R100, R104, R119). -/

namespace Sys2Proof.Machine

/-- R34, R109: a writer's event is the pair it leaves. -/
theorem wr_of_writer {i : Instr} {s t : State} (hi : i ∈ [Instr.rampStart, .rampStep, .holdWrite])
    (h : exec i s = .next t) : t.wr = some (t.pulseA, t.pulseB) := by
  simp only [List.mem_cons, List.not_mem_nil, or_false] at hi
  obtain rfl | rfl | rfl := hi
  all_goals
    obtain rfl := Host.Outcome.next.inj h
    rfl

/-- R109: a tick without a writer leaves the pair, and has no event. -/
theorem no_wr_of_other {s t : State} (hi : s.nextC ∉ [Instr.rampStart, .rampStep, .holdWrite])
    (hrst : s.nextEdge.rst = false) (h : step s = .next t) :
    t.wr = none ∧ t.pulseA = s.pulseA ∧ t.pulseB = s.pulseB := by
  obtain ⟨hA, hB, hwr⟩ := pair_of_exec hi (exec_nextC hrst h)
  exact ⟨hwr.trans s.afterE_wr, hA.trans s.afterE_pulseA, hB.trans s.afterE_pulseB⟩

/-- R92, R95, R98: a writer leaves the block in `RAMP` or `HOLD`. -/
theorem phase_of_writer {s t : State} (hi : s.nextC ∈ [Instr.rampStart, .rampStep, .holdWrite])
    (hrst : s.nextEdge.rst = false) (h : step s = .next t) : t.phase = .ramp ∨ t.phase = .hold := by
  have hsel := selectedC_nextC s
  rw [phase_of_tick hrst h]
  simp only [List.mem_cons, List.not_mem_nil, or_false] at hi
  obtain hi | hi | hi := hi
  all_goals
    rw [hi] at hsel ⊢
    simp_all [SelectedC, phaseWritten]

/-- Settles O37: by whether the C slot runs a writer; R24 after the tick gives the enable and the sum. -/
theorem writeEvents : Obligations.WriteEvents := by
  intro s t hrst h
  refine ⟨fun hi => wr_of_writer hi (exec_nextC hrst h), fun hi => no_wr_of_other hi hrst h, fun hinv a b hwr => ?_⟩
  have hinv' : Inv t := stepKeepsReachableStateInvariants s t hinv h
  by_cases hi : s.nextC ∈ [Instr.rampStart, .rampStep, .holdWrite]
  case pos =>
    obtain ⟨rfl, rfl⟩ : t.pulseA = a ∧ t.pulseB = b := by
      rw [wr_of_writer hi (exec_nextC hrst h)] at hwr
      simpa using hwr
    exact ⟨hinv'.enabled_iff.mpr (phase_of_writer hi hrst h), hinv'.mirror⟩
  case neg =>
    rw [(no_wr_of_other hi hrst h).1] at hwr
    cases hwr

/-- R110: the requests an operation emits. -/
def dispEmitted : Instr → BitVec 7
  | .encIncM | .encDecM => DispKind.menuCursor.mask
  | .selMaster | .settleDone => DispKind.ctrlScreen.mask
  | .encIncT | .encDecT => DispKind.value.mask
  | .modeToggle => DispKind.modeLabel.mask
  | .rampStart | .rampStep => DispKind.progress.mask
  | .rampDone => DispKind.ready.mask
  | .selSlave => DispKind.slaveScreen.mask
  | _ => 0

/-- R110: an operation adds its requests to those that stand. -/
theorem disp_of_exec {i : Instr} {s t : State} (h : exec i s = .next t) : t.disp = s.disp ||| dispEmitted i := by
  cases i
  case encHold | encLow | encHigh | encFall | menuPoll | menuPress | menuDbWait | modePress | idlePoll | rampZero
      | modeDbWait | rampWait | rampAbort | holdWrite | holdRelease | settleWait | slaveWait =>
    obtain rfl := Host.Outcome.next.inj h
    exact BitVec.or_zero.symm
  all_goals
    obtain rfl := Host.Outcome.next.inj h
    rfl

/-- R110: a tick's requests are those of its two operations. -/
theorem disp_of_tick {s t : State} (hrst : s.nextEdge.rst = false) (h : step s = .next t) :
    t.disp = dispEmitted s.nextE ||| dispEmitted s.nextC := by
  rw [disp_of_exec (exec_nextC hrst h), disp_of_exec (exec_nextE s), State.takeEdge_disp]
  exact congrArg (· ||| _) BitVec.zero_or

/-- R110: which operations emit each of the seven requests. -/
theorem dispEmitted_getLsbD (i : Instr) :
    ((dispEmitted i).getLsbD 0 = true ↔ i ∈ [Instr.encIncM, .encDecM]) ∧
    ((dispEmitted i).getLsbD 1 = true ↔ i ∈ [Instr.selMaster, .settleDone]) ∧
    ((dispEmitted i).getLsbD 2 = true ↔ i ∈ [Instr.encIncT, .encDecT]) ∧
    ((dispEmitted i).getLsbD 3 = true ↔ i = .modeToggle) ∧
    ((dispEmitted i).getLsbD 4 = true ↔ i ∈ [Instr.rampStart, .rampStep]) ∧
    ((dispEmitted i).getLsbD 5 = true ↔ i = .rampDone) ∧
    ((dispEmitted i).getLsbD 6 = true ↔ i = .selSlave) := by
  cases i <;> decide

/-- R110: no operation emits two requests. -/
theorem dispEmitted_one (i : Instr) {j k : Nat} (hj : (dispEmitted i).getLsbD j = true)
    (hk : (dispEmitted i).getLsbD k = true) : j = k := by
  have hone : ∀ j k : Fin 7, (dispEmitted i).getLsbD j = true → (dispEmitted i).getLsbD k = true → j = k := by
    cases i <;> decide
  exact congrArg Fin.val (hone ⟨j, BitVec.lt_of_getLsbD hj⟩ ⟨k, BitVec.lt_of_getLsbD hk⟩ hj hk)

/-- R110: the E slot emits only MENU_CURSOR, on the menu, and VALUE, in `CTRL_IDLE`. -/
theorem dispEmitted_nextE (s : State) :
    dispEmitted s.nextE = 0 ∨ s.phase = .menu ∨
      s.phase = .ctrlIdle ∧ dispEmitted s.nextE = DispKind.value.mask := by
  rw [nextE_eq]
  split_ifs <;> simp_all [dispEmitted]

/-- R110: in a phase that polls, the C slot emits only PROGRESS, by `RAMP_START`. -/
theorem dispEmitted_nextC_of_poll {s : State} (hp : s.phase = .menu ∨ s.phase = .ctrlIdle) :
    dispEmitted s.nextC = 0 ∨ s.phase = .ctrlIdle ∧ s.nextC = .rampStart := by
  have hsel := selectedC_nextC s
  generalize s.nextC = i at hsel
  cases i <;> simp_all [SelectedC, dispEmitted]

/-- R110: VALUE with PROGRESS is the one pair of requests, since the E slot emits in the polling phases alone. -/
theorem two_requests {s : State} {j k : Nat} (hjk : j < k)
    (hj : (dispEmitted s.nextE).getLsbD j = true ∨ (dispEmitted s.nextC).getLsbD j = true)
    (hk : (dispEmitted s.nextE).getLsbD k = true ∨ (dispEmitted s.nextC).getLsbD k = true) :
    j = 2 ∧ k = 4 ∧ s.nextC = .rampStart := by
  have hnotE (hnone : dispEmitted s.nextE = 0) : False := by
    simp only [hnone, BitVec.ofNat_eq_ofNat, BitVec.getLsbD_zero, Bool.false_eq_true, false_or] at hj hk
    exact hjk.ne (dispEmitted_one _ hj hk)
  have hnotC (hnone : dispEmitted s.nextC = 0) : False := by
    simp only [hnone, BitVec.ofNat_eq_ofNat, BitVec.getLsbD_zero, Bool.false_eq_true, or_false] at hj hk
    exact hjk.ne (dispEmitted_one _ hj hk)
  obtain he | hm | ⟨hc, he⟩ := dispEmitted_nextE s
  case inl => exact (hnotE he).elim
  case inr.inl =>
    obtain hnone | ⟨hc, -⟩ := dispEmitted_nextC_of_poll (.inl hm)
    · exact (hnotC hnone).elim
    · cases hm.symm.trans hc
  case inr.inr =>
    obtain hnone | ⟨-, hstart⟩ := dispEmitted_nextC_of_poll (.inr hc)
    · exact (hnotC hnone).elim
    · have hvalue (n : Nat) (hn : (dispEmitted s.nextE).getLsbD n = true) : n = 2 :=
        dispEmitted_one _ hn (by rw [he]; rfl)
      have hprogress (n : Nat) (hn : (dispEmitted s.nextC).getLsbD n = true) : n = 4 :=
        dispEmitted_one _ hn (by rw [hstart]; rfl)
      have hj' := hj.imp (hvalue j) (hprogress j)
      have hk' := hk.imp (hvalue k) (hprogress k)
      exact ⟨by omega, by omega, hstart⟩

/-- An operation stands in no list of operations of the other slot. -/
theorem not_mem_of_slot {i : Instr} {l : List Instr} {σ : Slot} (hi : i.slot = σ) (hl : ∀ j ∈ l, j.slot ≠ σ) : i ∉ l :=
  fun h => hl i h hi

/-- Settles O38: bit by bit, each slot's operations emit their own requests. -/
theorem redrawRequests : Obligations.RedrawRequests := by
  intro s t hrst h
  have hE := nextE_slot s
  have hC := nextC_slot s
  obtain ⟨e0, e1, e2, e3, e4, e5, e6⟩ := dispEmitted_getLsbD s.nextE
  obtain ⟨c0, c1, c2, c3, c4, c5, c6⟩ := dispEmitted_getLsbD s.nextC
  rw [disp_of_tick hrst h]
  simp only [BitVec.getLsbD_or, Bool.or_eq_true]
  rw [e0, e1, e2, e3, e4, e5, e6, c0, c1, c2, c3, c4, c5, c6]
  refine ⟨or_iff_left (not_mem_of_slot hC (by decide)), or_iff_right (not_mem_of_slot hE (by decide)),
    or_iff_left (not_mem_of_slot hC (by decide)), or_iff_right ?_, or_iff_right (not_mem_of_slot hE (by decide)),
    or_iff_right ?_, or_iff_right ?_, fun j k => two_requests⟩
  all_goals
    intro he
    rw [he] at hE
    cases hE

/-- R21, R107: only the two selections change the operating mode. -/
theorem opMode_of_tick_other {s t : State} (hm : s.nextC ≠ .selMaster) (hs : s.nextC ≠ .selSlave)
    (hrst : s.nextEdge.rst = false) (h : step s = .next t) : t.opMode = s.opMode := by
  have hsel := selectedC_nextC s
  rw [State.opMode, State.opMode, phase_of_tick hrst h]
  clear h
  generalize s.nextC = i at hm hs hsel
  cases i
  case encHold | encLow | encHigh | encFall | encIncM | encDecM | encIncT | encDecT => exact hsel.elim
  all_goals simp_all [SelectedC, phaseWritten, opModeOf]

/-- R107: no row leads back to the menu. -/
theorem from_menu_of_tick {s t : State} (hrst : s.nextEdge.rst = false) (h : step s = .next t)
    (ht : t.phase = .menu ∨ t.phase = .menuDb) : s.phase = .menu ∨ s.phase = .menuDb := by
  have hsel := selectedC_nextC s
  rw [phase_of_tick hrst h] at ht
  clear h
  generalize s.nextC = i at hsel ht
  cases i
  case menuPress => exact .inl (s.afterE_phase ▸ hsel.1)
  all_goals simp_all [phaseWritten]

/-- R142(a): a change of the operating mode is one of the two selections, which the cursor decides. -/
theorem opMode_chosen {s t : State} (hrst : s.nextEdge.rst = false) (h : step s = .next t)
    (hne : t.opMode ≠ s.opMode) :
    s.opMode = .unselected ∧ s.phase = .menuDb ∧ s.tmr = 0 ∧
      t.opMode = (if s.menuIdx = 0 then .master else .slave) := by
  have hcursor (hp : s.phase = .menuDb) : s.afterE.menuIdx = s.menuIdx := afterE_menuIdx_of_ne (by simp [hp])
  have hphase := phase_of_tick hrst h
  by_cases hm : s.nextC = .selMaster
  case pos =>
    obtain ⟨hp, ht, hidx⟩ := (nextC_eq_iff s _).mp hm
    rw [State.afterE_phase] at hp
    rw [hcursor hp] at hidx
    simp_all [State.opMode, opModeOf, phaseWritten]
  case neg =>
    by_cases hs : s.nextC = .selSlave
    case pos =>
      obtain ⟨hp, ht, hidx⟩ := (nextC_eq_iff s _).mp hs
      rw [State.afterE_phase] at hp
      rw [hcursor hp] at hidx
      simp_all [State.opMode, opModeOf, phaseWritten]
    case neg => exact absurd (opMode_of_tick_other hm hs hrst h) hne

/-- Settles O40: the two selections, the rows that lead to the menu, and outside Master item 2 of R24 with the event's
own condition. -/
theorem operatingModeIsChosenOnce : Obligations.OperatingModeIsChosenOnce := by
  intro s t hrst h
  refine ⟨opMode_chosen hrst h, from_menu_of_tick hrst h, fun hinv hmode => ?outside⟩
  case outside =>
    have hinv' : Inv t := stepKeepsReachableStateInvariants s t hinv h
    have hen : t.pwmEn = false := pwmEn_false_of_inv hinv' (by
      rintro (hp | hp) <;> exact hmode (by rw [State.opMode, hp]; rfl))
    obtain ⟨-, -, hevent⟩ := writeEvents s t hrst h
    refine ⟨hen, Option.eq_none_iff_forall_ne_some.mpr fun (a, b) hwr => ?_⟩
    obtain ⟨hen', -⟩ := hevent hinv a b hwr
    rw [hen] at hen'
    cases hen'

/-- Settles O41: the three phases do not poll, and do not run `MODE_TOGGLE`. -/
theorem targetIsFrozenWhileRamping : Obligations.TargetIsFrozenWhileRamping := by
  intro s t hrst h hp
  obtain ⟨htarget, hidx, hl⟩ := tick_encoderRegs hrst h
  have hnopoll : ¬ (s.phase = .menu ∨ s.phase = .ctrlIdle) := by
    obtain hp | hp | hp := hp <;> simp [hp]
  have hnotoggle : s.nextC ≠ .modeToggle := by
    intro hi
    obtain ⟨hdb, -⟩ := (nextC_eq_iff s _).mp hi
    rw [State.afterE_phase] at hdb
    simp [hdb] at hp
  rw [afterE_of_no_poll hnopoll] at htarget hidx hl
  exact ⟨htarget, hl, hidx, (adjMode_of_exec hnotoggle (exec_nextC hrst h)).trans s.afterE_adjMode⟩

/-- R92: what `RAMP_START` leaves on the outputs. -/
theorem exec_rampStart_outputs {s t : State} (h : exec .rampStart s = .next t) :
    t.target = s.target ∧ t.phase = .ramp ∧ t.pwmView = some (1500, 1500) ∧ t.wr = some (1500, 1500) := by
  rw [rampStartEnablesAtNeutral s] at h
  obtain rfl := Host.Outcome.next.inj h
  exact ⟨rfl, rfl, pwmView_of_enabled rfl, rfl⟩

/-- Settles O42: only `RAMP_START` sets the enable, and its condition and its writes are the claim. -/
theorem outputsAreEnabledOnlyByRampStart : Obligations.OutputsAreEnabledOnlyByRampStart := by
  intro s t hrst h hoff hon
  have hex := exec_nextC hrst h
  have hi : s.nextC = .rampStart := by
    by_contra hne
    rw [pwmEn_of_exec hex, if_neg hne, State.afterE_pwmEn, hoff, ite_self] at hon
    cases hon
  obtain ⟨hp, hsel, hdm, htarget⟩ := (nextC_eq_iff s _).mp hi
  rw [State.afterE_phase] at hp
  rw [hi] at hex
  obtain ⟨htarget', houtputs⟩ := exec_rampStart_outputs hex
  simp only [inSel, inDm, Bool.not_eq_true', Bool.not_eq_false'] at hsel hdm
  exact ⟨hi, hp, hdm, hsel, congrArg opModeOf hp, htarget' ▸ htarget, houtputs⟩

/-- R95: from the pair of `ramp_i`, a step moves each channel by the gain, in the target's direction. -/
theorem pair_of_rampStep {s t : State} (hinv : Inv s) (hi : s.nextC = .rampStep)
    (hex : exec s.nextC s.afterE = .next t) :
    t.pulseA = s.pulseA + 5 * s.target.sign ∧ t.pulseB = s.pulseB - 5 * s.target.sign ∧
      (t.pulseA - s.pulseA).natAbs = 5 ∧ (t.pulseB - s.pulseB).natAbs = 5 := by
  obtain ⟨hp, -⟩ := (nextC_eq_iff s _).mp hi
  rw [State.afterE_phase] at hp
  obtain ⟨hA, hB⟩ := hinv.ramp_pair hp
  obtain ⟨hne, -⟩ := hinv.ramp_count (.inl hp)
  have htarget : s.afterE.target = s.target := afterE_target_of_ne (by simp [hp])
  have hunit : s.target.sign = 1 ∨ s.target.sign = -1 := by
    obtain hneg | hpos := lt_or_gt_of_ne hne
    · exact .inr (Int.sign_eq_neg_one_of_neg hneg)
    · exact .inl (Int.sign_eq_one_of_pos hpos)
  rw [hi, exec_rampStep rfl] at hex
  obtain rfl := Host.Outcome.next.inj hex
  simp only [htarget, State.afterE_rampI, hA, hB]
  obtain hs | hs := hunit
  all_goals
    rw [hs]
    omega

/-- R98: in R24 a rewrite in `HOLD` is of the pair that stands. -/
theorem pair_of_holdWrite {s t : State} (hinv : Inv s) (hi : s.nextC = .holdWrite)
    (hex : exec s.nextC s.afterE = .next t) : t.pulseA = s.pulseA ∧ t.pulseB = s.pulseB := by
  obtain ⟨hp, -⟩ := (nextC_eq_iff s _).mp hi
  rw [State.afterE_phase] at hp
  obtain ⟨hA, hB⟩ := hinv.hold_pair hp
  have htarget : s.afterE.target = s.target := afterE_target_of_ne (by simp [hp])
  rw [hi] at hex
  obtain rfl := Host.Outcome.next.inj hex
  rw [htarget]
  exact ⟨hA.symm, hB.symm⟩

/-- Settles O43: an enabled state is in `RAMP` or `HOLD`, where the writers are `RAMP_STEP` and `HOLD_WRITE`. -/
theorem commandedPulseNeverJumps : Obligations.CommandedPulseNeverJumps := by
  intro s t hinv hrst h hen
  have hex := exec_nextC hrst h
  refine ⟨fun hi => pair_of_rampStep hinv hi hex, fun hi => ?_⟩
  by_cases hwriter : s.nextC ∈ [Instr.rampStart, .rampStep, .holdWrite]
  case neg => exact (no_wr_of_other hwriter hrst h).2
  case pos =>
    simp only [List.mem_cons, List.not_mem_nil, or_false] at hwriter
    obtain hstart | hstep | hwrite := hwriter
    · obtain ⟨hp, -⟩ := (nextC_eq_iff s _).mp hstart
      rw [State.afterE_phase] at hp
      simp [hinv.enabled_iff, hp] at hen
    · exact absurd hstep hi
    · exact pair_of_holdWrite hinv hwrite hex

end Sys2Proof.Machine

/-! The blocking delays (R14, R121): the ticks that wait, the operation that starts a delay, and the delay as a run. -/

namespace Sys2Proof.Machine

/-- R121: while the timer is not 0 a blocking phase runs its waiting operation. -/
theorem nextC_of_waiting {s : State} {wait : Instr} {done : List Instr} (hw : waitOf s.phase = some (wait, done))
    (ht : s.tmr ≠ 0) : s.nextC = wait := by
  rw [nextC_eq_iff]
  cases hp : s.phase
  case menu | ctrlIdle | hold | slave => simp [hp, waitOf] at hw
  all_goals
    rw [hp] at hw
    obtain ⟨rfl, -⟩ : _ ∧ _ := by simpa [waitOf] using hw
    exact ⟨s.afterE_phase.trans hp, s.afterE_tmr ▸ ht⟩

/-- R121: at 0 it runs one of its completing operations. -/
theorem nextC_of_completing {s : State} {wait : Instr} {done : List Instr}
    (hw : waitOf s.phase = some (wait, done)) (ht : s.tmr = 0) : s.nextC ∈ done := by
  have hsel := selectedC_nextC s
  generalize s.nextC = i at hsel
  cases hp : s.phase
  case menu | ctrlIdle | hold | slave => simp [hp, waitOf] at hw
  all_goals
    rw [hp] at hw
    obtain ⟨-, rfl⟩ : _ ∧ _ := by simpa [waitOf] using hw
    cases i <;> simp_all [SelectedC]

/-- R121: a blocking phase does not poll. -/
theorem afterE_of_waiting {s : State} {wait : Instr} {done : List Instr}
    (hw : waitOf s.phase = some (wait, done)) : s.afterE = s.takeEdge := by
  refine afterE_of_no_poll ?_
  rintro (hp | hp) <;> simp [hp, waitOf] at hw

/-- R71, R87, R94, R101: the four waiting operations count down. -/
theorem exec_waiting {p : Phase} {wait : Instr} {done : List Instr} (hw : waitOf p = some (wait, done)) (s : State) :
    exec wait s = .next s.countDown := by
  cases p
  case menu | ctrlIdle | hold | slave => simp [waitOf] at hw
  all_goals
    obtain ⟨rfl, -⟩ : _ ∧ _ := by simpa [waitOf] using hw
    rfl

/-- A waiting tick takes its edge and counts down. -/
theorem step_of_waiting {s : State} {wait : Instr} {done : List Instr} (hw : waitOf s.phase = some (wait, done))
    (ht : s.tmr ≠ 0) (hrst : s.nextEdge.rst = false) : step s = .next s.takeEdge.countDown := by
  refine step_of_nextC hrst (nextC_of_waiting hw ht) ?_
  rw [afterE_of_waiting hw]
  exact exec_waiting hw _

/-- The state n waiting ticks later. -/
def State.waited (s : State) : Nat → State
  | 0 => s
  | n + 1 => s.takeEdge.countDown.waited n

/-- R121: waiting changes the timer alone; the strobes are over and the edges taken. -/
theorem waited_frame (s : State) (n : Nat) :
    { s.waited n with tmr := s.tmr, wr := s.wr, disp := s.disp, inputs := s.inputs, edges := s.edges } = s := by
  induction n generalizing s with
  | zero => rfl
  | succ n ih =>
    have h := ih s.takeEdge.countDown
    exact congrArg (fun v : State =>
      { v with tmr := s.tmr, wr := s.wr, disp := s.disp, inputs := s.inputs, edges := s.edges }) h

@[simp] theorem State.waited_tmr (s : State) (n : Nat) : (s.waited n).tmr = s.tmr - n := by
  induction n generalizing s with
  | zero => rfl
  | succ n ih =>
    rw [State.waited, ih, countDown_eq, Nat.sub_sub, Nat.add_comm 1 n]
    rfl

@[simp] theorem State.waited_phase (s : State) (n : Nat) : (s.waited n).phase = s.phase :=
  (congrArg State.phase (waited_frame s n) :)
@[simp] theorem State.waited_menuIdx (s : State) (n : Nat) : (s.waited n).menuIdx = s.menuIdx :=
  (congrArg State.menuIdx (waited_frame s n) :)
@[simp] theorem State.waited_adjMode (s : State) (n : Nat) : (s.waited n).adjMode = s.adjMode :=
  (congrArg State.adjMode (waited_frame s n) :)
@[simp] theorem State.waited_target (s : State) (n : Nat) : (s.waited n).target = s.target :=
  (congrArg State.target (waited_frame s n) :)
@[simp] theorem State.waited_rampI (s : State) (n : Nat) : (s.waited n).rampI = s.rampI :=
  (congrArg State.rampI (waited_frame s n) :)
@[simp] theorem State.waited_pwmEn (s : State) (n : Nat) : (s.waited n).pwmEn = s.pwmEn :=
  (congrArg State.pwmEn (waited_frame s n) :)
@[simp] theorem State.waited_pulseA (s : State) (n : Nat) : (s.waited n).pulseA = s.pulseA :=
  (congrArg State.pulseA (waited_frame s n) :)
@[simp] theorem State.waited_pulseB (s : State) (n : Nat) : (s.waited n).pulseB = s.pulseB :=
  (congrArg State.pulseB (waited_frame s n) :)

/-- R109: the `wr` events of a run, by its first step. -/
theorem wrCount_succ {s t : State} (n : Nat) (h : step s = .next t) :
    State.wrCount (n + 1) s = (if t.wr.isSome then 1 else 0) + State.wrCount n t := by
  simp only [State.wrCount, h]

theorem wrCount_one {s t : State} (h : step s = .next t) :
    State.wrCount 1 s = if t.wr.isSome then 1 else 0 :=
  wrCount_succ 0 h

/-- R121: as many waiting ticks as the timer says, none of which writes a pair. -/
theorem runsTo_waited {s : State} {wait : Instr} {done : List Instr} {n : Nat}
    (hw : waitOf s.phase = some (wait, done)) (hle : n ≤ s.tmr) (hn : s.NoReset n) :
    s.RunsTo n (s.waited n) ∧ State.wrCount n s = 0 := by
  induction n generalizing s with
  | zero => exact ⟨State.runsTo_zero s, rfl⟩
  | succ n ih =>
    have hstep := step_of_waiting hw (by omega) (State.noReset_next hn)
    have hle' : n ≤ s.takeEdge.countDown.tmr := Nat.le_sub_one_of_lt hle
    obtain ⟨hrun, hcount⟩ := ih (s := s.takeEdge.countDown) hw hle' (State.noReset_step hstep hn)
    exact ⟨State.runsTo_succ hstep hrun, by rw [wrCount_succ n hstep, hcount]; rfl⟩

/-- R121: the phase a starting operation leads to and the timer it loads; `RAMP_STEP` is started from `RAMP` itself. -/
theorem delay_of_exec {i : Instr} {s t : State} {p : Phase} {T : Nat} (hd : delayOf s.cfg i = some (p, T))
    (hstep : i = .rampStep → s.phase = .ramp) (h : exec i s = .next t) : t.phase = p ∧ t.tmr = T - 1 := by
  cases i
  case menuPress | modePress | rampStart | rampZero | rampAbort | holdRelease =>
    obtain ⟨rfl, rfl⟩ : _ ∧ _ := by simpa [delayOf] using hd
    obtain rfl := Host.Outcome.next.inj h
    exact ⟨rfl, rfl⟩
  case rampStep =>
    obtain ⟨rfl, rfl⟩ : _ ∧ _ := by simpa [delayOf] using hd
    obtain rfl := Host.Outcome.next.inj h
    exact ⟨hstep rfl, rfl⟩
  all_goals simp [delayOf] at hd

/-- R121: a tick that starts a delay. -/
theorem delay_started {s t : State} {p : Phase} {T : Nat} (hd : delayOf s.cfg s.nextC = some (p, T))
    (hrst : s.nextEdge.rst = false) (h : step s = .next t) : t.phase = p ∧ t.tmr = T - 1 := by
  refine delay_of_exec (s.afterE_cfg ▸ hd) (fun hi => ?_) (exec_nextC hrst h)
  obtain ⟨hp, -⟩ := (nextC_eq_iff s _).mp hi
  exact hp

/-- R5: in a well-formed build both intervals are at least one tick. -/
theorem intervals_pos {c : Config} (hwf : c.wf = true) : 1 ≤ c.tDebounce ∧ 1 ≤ c.tRamp := by
  simp only [Config.wf, Bool.and_eq_true, decide_eq_true_eq] at hwf
  obtain ⟨⟨-, htd⟩, htr⟩ := hwf
  exact ⟨htd, htr⟩

/-- R5: in a well-formed build a delay is at least one tick. -/
theorem delay_pos {c : Config} {i : Instr} {p : Phase} {T : Nat} (hwf : c.wf = true)
    (hd : delayOf c i = some (p, T)) : 1 ≤ T := by
  obtain ⟨htd, htr⟩ := intervals_pos hwf
  cases i
  case menuPress | modePress | rampStart | rampStep | rampZero | rampAbort | holdRelease =>
    obtain ⟨-, rfl⟩ : _ ∧ _ := by simpa [delayOf] using hd
    assumption
  all_goals simp [delayOf] at hd

/-- R121: a delay of T ticks is the tick that starts it and T - 1 ticks of waiting, among which only the first can write
a pair. -/
theorem delay_runs {s : State} {p : Phase} {T : Nat} {wait : Instr} {done : List Instr} (hwf : s.cfg.wf = true)
    (hd : delayOf s.cfg s.nextC = some (p, T)) (hw : waitOf p = some (wait, done)) (hn : s.NoReset T) :
    ∃ u, step s = .next u ∧ u.phase = p ∧ u.tmr = T - 1 ∧ (∀ j < T, s.RunsTo (j + 1) (u.waited j)) ∧
      s.RunsTo T (u.waited (T - 1)) ∧ State.wrCount T s = if u.wr.isSome then 1 else 0 := by
  obtain ⟨n, rfl⟩ : ∃ n, T = n + 1 := ⟨T - 1, by have := delay_pos hwf hd; omega⟩
  obtain ⟨u, hstep⟩ := step_next s
  obtain ⟨hp, ht⟩ := delay_started hd (State.noReset_next hn) hstep
  have hnu : u.NoReset n := State.noReset_step hstep hn
  have hrun (j : Nat) (hj : j < n + 1) : s.RunsTo (j + 1) (u.waited j) :=
    State.runsTo_succ hstep
      (runsTo_waited (hp ▸ hw) (by omega) (State.noReset_of_le hnu (Nat.le_of_lt_succ hj))).1
  obtain ⟨-, hcount⟩ := runsTo_waited (hp ▸ hw) (n := n) (by omega) hnu
  exact ⟨u, hstep, hp, ht, hrun, hrun n (Nat.lt_succ_self n), by rw [wrCount_succ n hstep, hcount, Nat.add_zero]⟩

/-- Settles O45: the delay as a run; while the timer is not 0 the phase waits, and at 0 it completes. -/
theorem timerLaw : Obligations.TimerLaw := by
  intro s p T wait done hwf hd hw hn
  obtain ⟨u, hstep, hp, ht, hrun, hend, -⟩ := delay_runs hwf hd hw hn
  refine ⟨u, State.runsTo_one hstep, hp, fun j hj hjT => ?waits, u.waited (T - 1), hend, ?completes, waited_frame u _⟩
  case waits =>
    obtain ⟨k, rfl⟩ : ∃ k, j = k + 1 := ⟨j - 1, by omega⟩
    exact ⟨u.waited k, hrun k (by omega),
      nextC_of_waiting (done := done) (by rw [State.waited_phase, hp, hw]) (by rw [State.waited_tmr, ht]; omega)⟩
  case completes =>
    exact nextC_of_completing (wait := wait) (by rw [State.waited_phase, hp, hw])
      (by rw [State.waited_tmr, ht, Nat.sub_self])

end Sys2Proof.Machine

/-! The toggle (R72, R74) and the zero target (R136) as runs: a period is the tick that starts the delay, the waiting
ticks, and the tick that completes it. -/

namespace Sys2Proof.Machine

/-- A run and one step more. -/
theorem runsTo_snoc {s u t : State} {n : Nat} (hrun : s.RunsTo n u) (h : step u = .next t) : s.RunsTo (n + 1) t :=
  State.runsTo_add hrun (State.runsTo_one h)

/-- The edge a run has come to is the one the environment has there. -/
theorem nextEdge_of_run {s u : State} {n : Nat} (hrun : s.RunsTo n u) : u.nextEdge = s.edgeAt n :=
  State.runsTo_edgeAt hrun 0

/-- What is left of a stretch without reset, after a run of its first part. -/
theorem noReset_of_run {s u : State} {m n : Nat} (hrun : s.RunsTo m u) (hn : s.NoReset (m + n)) : u.NoReset n :=
  fun j hj => by rw [State.runsTo_edgeAt hrun]; exact hn _ (by omega)

/-- R70: a press in `CTRL_IDLE`, whatever the dead-man does. -/
theorem nextC_of_press {s : State} (hp : s.phase = .ctrlIdle) (hsel : s.nextEdge.iw.getLsbD 2 = false) :
    s.nextC = .modePress :=
  (nextC_eq_iff s _).mpr ⟨s.afterE_phase.trans hp, by rw [inSel, hsel]; rfl⟩

/-- R72: the tick that completes the toggle. -/
theorem step_of_toggle {v : State} (hp : v.phase = .ctrlDb) (ht : v.tmr = 0) (hrst : v.nextEdge.rst = false) :
    ∃ t, step v = .next t ∧ t.phase = .ctrlIdle ∧ t.pwmEn = v.pwmEn ∧
      t.adjMode = if v.adjMode = .fine then .coarse else .fine := by
  have hi : v.nextC = .modeToggle := (nextC_eq_iff v _).mpr ⟨v.afterE_phase.trans hp, v.afterE_tmr.trans ht⟩
  refine ⟨_, step_of_nextC hrst hi (exec_modeToggle v.afterE), rfl, v.afterE_pwmEn, ?_⟩
  rw [← v.afterE_adjMode]

/-- Settles O50: the press, the settle interval, and the flip. -/
theorem pressTogglesAfterTheSettleInterval : Obligations.PressTogglesAfterTheSettleInterval := by
  intro s hwf hp hsel hn
  have hi := nextC_of_press hp hsel
  have hd : delayOf s.cfg s.nextC = some (.ctrlDb, s.cfg.tDebounce) := by rw [hi]; rfl
  obtain ⟨u, hstep, hup, hut, hrun, hend, -⟩ :=
    delay_runs hwf hd rfl (State.noReset_of_le hn (Nat.le_succ _))
  have hex := exec_nextC (State.noReset_next hn) hstep
  have hmode : u.adjMode = s.adjMode := (adjMode_of_exec (by simp [hi]) hex).trans s.afterE_adjMode
  have hen : u.pwmEn = s.pwmEn := (pwmEn_of_exec_other (by simp [hi]) (by simp [hi]) hex).trans s.afterE_pwmEn
  refine ⟨fun j hj => ?before, ?after⟩
  case before =>
    cases j with
    | zero => exact ⟨s, State.runsTo_zero s, rfl⟩
    | succ j => exact ⟨u.waited j, hrun j hj, by rw [State.waited_adjMode, hmode]⟩
  case after =>
    have hrst : (u.waited (s.cfg.tDebounce - 1)).nextEdge.rst = false := by
      rw [nextEdge_of_run hend]
      exact hn _ (Nat.lt_succ_self _)
    obtain ⟨t, hlast, htp, hten, htmode⟩ :=
      step_of_toggle (v := u.waited (s.cfg.tDebounce - 1)) (by rw [State.waited_phase, hup])
        (by rw [State.waited_tmr, hut, Nat.sub_self]) hrst
    refine ⟨t, runsTo_snoc hend hlast, htp, ?_, ?_⟩
    · rw [hten, State.waited_pwmEn, hen]
    · rw [htmode, State.waited_adjMode, hmode]

/-- R19: flipping changes whether the mode is a given one. -/
theorem flipped_eq_iff (m m' : AdjMode) : (if m = .fine then AdjMode.coarse else .fine) = m' ↔ m ≠ m' := by
  cases m <;> cases m' <;> decide

/-- R74(a): after n whole periods, by induction on them; each is a press (O50). -/
theorem held_periods {s : State} (n : Nat) (hwf : s.cfg.wf = true) (hp : s.phase = .ctrlIdle)
    (hn : s.NoReset (n * (s.cfg.tDebounce + 1)))
    (hsel : ∀ j < n * (s.cfg.tDebounce + 1), (s.edgeAt j).iw.getLsbD 2 = false) :
    ∃ t, s.RunsTo (n * (s.cfg.tDebounce + 1)) t ∧ t.phase = .ctrlIdle ∧ (t.adjMode = s.adjMode ↔ n % 2 = 0) := by
  induction n with
  | zero => exact ⟨s, by rw [Nat.zero_mul]; exact State.runsTo_zero s, hp, by simp⟩
  | succ n ih =>
    rw [Nat.succ_mul] at hn hsel ⊢
    obtain ⟨t, hrun, htp, hmode⟩ := ih (State.noReset_of_le hn (by omega)) (fun j hj => hsel j (by omega))
    have hcfg := State.runsTo_cfg hrun
    obtain ⟨-, v, hperiod, hvp, -, hflip⟩ := pressTogglesAfterTheSettleInterval t (hcfg ▸ hwf) htp
      (by rw [nextEdge_of_run hrun]; exact hsel _ (by omega)) (by rw [hcfg]; exact noReset_of_run hrun hn)
    rw [hcfg] at hperiod
    refine ⟨v, State.runsTo_add hrun hperiod, hvp, ?_⟩
    rw [hflip, flipped_eq_iff, Ne, hmode]
    omega

/-- Settles O51: whole periods lead to the start of period k, and within it the mode is still the one there (O50). -/
theorem heldSelectFlipsPeriodically : Obligations.HeldSelectFlipsPeriodically := by
  intro s n hwf hp hn hsel
  refine ⟨fun k j hk hj => ?within, held_periods n hwf hp hn hsel⟩
  have hle : k * (s.cfg.tDebounce + 1) + (s.cfg.tDebounce + 1) ≤ n * (s.cfg.tDebounce + 1) := by
    rw [← Nat.succ_mul]
    exact Nat.mul_le_mul_right _ hk
  obtain ⟨t, hrun, htp, hmode⟩ := held_periods k hwf hp (State.noReset_of_le hn (by omega))
    (fun j hj => hsel j (by omega))
  have hcfg := State.runsTo_cfg hrun
  obtain ⟨hbefore, -⟩ := pressTogglesAfterTheSettleInterval t (hcfg ▸ hwf) htp
    (by rw [nextEdge_of_run hrun]; exact hsel _ (by omega))
    (by rw [hcfg]; exact noReset_of_run hrun (State.noReset_of_le hn hle))
  obtain ⟨v, hv, hvmode⟩ := hbefore j (hcfg ▸ hj)
  exact ⟨v, State.runsTo_add hrun hv, by rw [hvmode, hmode]⟩

/-- R93: in `CTRL_IDLE` with a zero target, A LOW and the dead-man held, the tick is a safe-stop. -/
theorem step_of_zero_target {s : State} (hp : s.phase = .ctrlIdle) (htarget : s.target = 0)
    (hrst : s.nextEdge.rst = false) (hdm : s.nextEdge.iw.getLsbD 3 = false) (hsel : s.nextEdge.iw.getLsbD 2 = true)
    (ha : s.nextEdge.iw.getLsbD 0 = false) :
    s.nextC = .rampZero ∧ ∃ u, step s = .next u ∧ u.target = 0 ∧ u.pwmEn = false ∧ u.wr = none := by
  have hzero : s.afterE.target = 0 := by
    rw [afterE_target, if_neg, htarget]
    rintro ⟨-, -, hrise⟩
    rw [inA, ha] at hrise
    cases hrise
  have hi : s.nextC = .rampZero :=
    (nextC_eq_iff s _).mpr ⟨s.afterE_phase.trans hp, by rw [inSel, hsel]; rfl, by rw [inDm, hdm]; rfl, hzero⟩
  exact ⟨hi, _, step_of_nextC hrst hi rfl, hzero, s.afterE.safeStop_pwmEn, s.afterE_wr⟩

/-- R102: the tick that completes the settle interval. -/
theorem step_of_settled {v : State} (hp : v.phase = .settle) (ht : v.tmr = 0) (hrst : v.nextEdge.rst = false) :
    ∃ t, step v = .next t ∧ t.phase = .ctrlIdle ∧ t.target = v.target ∧ t.pwmEn = v.pwmEn ∧ t.wr = none := by
  have hi : v.nextC = .settleDone := (nextC_eq_iff v _).mpr ⟨v.afterE_phase.trans hp, v.afterE_tmr.trans ht⟩
  exact ⟨_, step_of_nextC hrst hi rfl, rfl, afterE_target_of_ne (by simp [hp]), v.afterE_pwmEn, v.afterE_wr⟩

/-- R136: the pins of a stretch of n ticks that cycles on a zero target. -/
def ZeroPins (s : State) (n : Nat) : Prop :=
  ∀ j < n, (s.edgeAt j).iw.getLsbD 3 = false ∧ (s.edgeAt j).iw.getLsbD 2 = true ∧ (s.edgeAt j).iw.getLsbD 0 = false

theorem zeroPins_of_run {s u : State} {m n : Nat} (hrun : s.RunsTo m u) (h : ZeroPins s (m + n)) : ZeroPins u n :=
  fun j hj => by rw [State.runsTo_edgeAt hrun]; exact h _ (by omega)

/-- R136: one period. -/
theorem zero_period {s : State} (hwf : s.cfg.wf = true) (hp : s.phase = .ctrlIdle) (htarget : s.target = 0)
    (hn : s.NoReset (s.cfg.tDebounce + 1)) (hpins : ZeroPins s (s.cfg.tDebounce + 1)) :
    (∀ j < s.cfg.tDebounce, ∃ v, s.RunsTo (j + 1) v ∧ v.pwmEn = false ∧ v.target = 0 ∧ v.phase = .settle) ∧
    ∃ t, s.RunsTo (s.cfg.tDebounce + 1) t ∧ t.pwmEn = false ∧ t.target = 0 ∧ t.phase = .ctrlIdle ∧
      State.wrCount (s.cfg.tDebounce + 1) s = 0 := by
  obtain ⟨hdm, hsel, ha⟩ := hpins 0 (Nat.succ_pos _)
  obtain ⟨hi, u, hstep, hu0, huen, huwr⟩ := step_of_zero_target hp htarget (State.noReset_next hn) hdm hsel ha
  have hd : delayOf s.cfg s.nextC = some (.settle, s.cfg.tDebounce) := by rw [hi]; rfl
  obtain ⟨u', hstep', hup, hut, hrun, hend, hcount⟩ :=
    delay_runs hwf hd rfl (State.noReset_of_le hn (Nat.le_succ _))
  obtain rfl : u = u' := Host.Outcome.next.inj (hstep.symm.trans hstep')
  refine ⟨fun j hj => ⟨u.waited j, hrun j hj, by simp [huen, hu0, hup]⟩, ?_⟩
  have hrst : (u.waited (s.cfg.tDebounce - 1)).nextEdge.rst = false := by
    rw [nextEdge_of_run hend]
    exact hn _ (Nat.lt_succ_self _)
  obtain ⟨t, hlast, htp, ht0, hten, htwr⟩ := step_of_settled (v := u.waited (s.cfg.tDebounce - 1))
    (by rw [State.waited_phase, hup]) (by rw [State.waited_tmr, hut, Nat.sub_self]) hrst
  refine ⟨t, runsTo_snoc hend hlast, ?_, ?_, htp, ?_⟩
  · rw [hten, State.waited_pwmEn, huen]
  · rw [ht0, State.waited_target, hu0]
  · rw [State.wrCount_add 1 hend, hcount, wrCount_one hlast, huwr, htwr]
    rfl

/-- R136: n whole periods, by induction on them. -/
theorem zero_periods {s : State} (n : Nat) (hwf : s.cfg.wf = true) (hp : s.phase = .ctrlIdle) (htarget : s.target = 0)
    (hn : s.NoReset (n * (s.cfg.tDebounce + 1))) (hpins : ZeroPins s (n * (s.cfg.tDebounce + 1))) :
    ∃ t, s.RunsTo (n * (s.cfg.tDebounce + 1)) t ∧ (1 ≤ n → t.pwmEn = false) ∧ t.target = 0 ∧ t.phase = .ctrlIdle ∧
      State.wrCount (n * (s.cfg.tDebounce + 1)) s = 0 := by
  induction n with
  | zero =>
    rw [Nat.zero_mul]
    exact ⟨s, State.runsTo_zero s, by omega, htarget, hp, rfl⟩
  | succ n ih =>
    rw [Nat.succ_mul] at hn hpins ⊢
    obtain ⟨t, hrun, -, ht0, htp, hcount⟩ :=
      ih (State.noReset_of_le hn (by omega)) (fun j hj => hpins j (by omega))
    have hcfg := State.runsTo_cfg hrun
    obtain ⟨-, v, hperiod, hven, hv0, hvp, hcount'⟩ := zero_period (hcfg ▸ hwf) htp ht0
      (by rw [hcfg]; exact noReset_of_run hrun hn) (by rw [hcfg]; exact zeroPins_of_run hrun hpins)
    rw [hcfg] at hperiod hcount'
    exact ⟨v, State.runsTo_add hrun hperiod, fun _ => hven, hv0, hvp, by rw [State.wrCount_add _ hrun, hcount, hcount']⟩

/-- Settles O52: tick j is the end of a period, or lies inside the one after j / (T + 1) whole periods. -/
theorem zeroTargetCyclesDisabled : Obligations.ZeroTargetCyclesDisabled := by
  intro s n hwf hp htarget hn hpins
  refine ⟨fun j hj hjn => ?tick, ?writes⟩
  case writes =>
    obtain ⟨-, -, -, -, -, hcount⟩ := zero_periods n hwf hp htarget hn hpins
    exact hcount
  case tick =>
    have hsplit : j / (s.cfg.tDebounce + 1) * (s.cfg.tDebounce + 1) + j % (s.cfg.tDebounce + 1) = j :=
      Nat.div_add_mod' j _
    have hmod : j % (s.cfg.tDebounce + 1) < s.cfg.tDebounce + 1 := Nat.mod_lt _ (Nat.succ_pos _)
    generalize j / (s.cfg.tDebounce + 1) = k at hsplit
    generalize j % (s.cfg.tDebounce + 1) = r at hsplit hmod
    obtain ⟨t, hrun, hten, ht0, htp, -⟩ := zero_periods k hwf hp htarget (State.noReset_of_le hn (by omega))
      (fun i hi => hpins i (by omega))
    cases r with
    | zero =>
      have hk : 1 ≤ k := by
        by_contra hzero
        obtain rfl : k = 0 := by omega
        omega
      obtain rfl : _ = j := hsplit
      exact ⟨t, hrun, hten hk, ht0, by simp [htp]⟩
    | succ r =>
      have hcfg := State.runsTo_cfg hrun
      have hle : k * (s.cfg.tDebounce + 1) + (s.cfg.tDebounce + 1) ≤ n * (s.cfg.tDebounce + 1) := by
        rw [← Nat.succ_mul]
        refine Nat.mul_le_mul_right _ (Nat.lt_of_mul_lt_mul_right (a := s.cfg.tDebounce + 1) ?_)
        omega
      obtain ⟨hwithin, -⟩ := zero_period (hcfg ▸ hwf) htp ht0
        (by rw [hcfg]; exact noReset_of_run hrun (State.noReset_of_le hn hle))
        (by rw [hcfg]; exact zeroPins_of_run hrun (fun i hi => hpins i (by omega)))
      obtain ⟨v, hv, hven, hv0, hvp⟩ := hwithin r (by rw [hcfg]; omega)
      exact ⟨v, hsplit ▸ State.runsTo_add hrun hv, hven, hv0, by simp [hvp]⟩

end Sys2Proof.Machine

/-! The ramp as a run (R103): where its checks fall, how far it has come there, and what each check decides; then the
release (R104) and the hold (R98). -/

namespace Sys2Proof.Machine

/-- R92, R95: the outputs carry step k of a ramp towards t. -/
structure StepWritten (t : Int) (k : Nat) (u : State) : Prop where
  enabled : u.pwmEn = true
  target : u.target = t
  count : u.rampI = k
  pair : u.pulseA = pulseAOf (t.sign * k) ∧ u.pulseB = pulseBOf (t.sign * k)

/-- Waiting leaves the step on the outputs. -/
theorem StepWritten.waited {t : Int} {k : Nat} {u : State} (h : StepWritten t k u) (n : Nat) :
    StepWritten t k (u.waited n) where
  enabled := (u.waited_pwmEn n).trans h.enabled
  target := (u.waited_target n).trans h.target
  count := (u.waited_rampI n).trans h.count
  pair := by
    rw [State.waited_pulseA, State.waited_pulseB]
    exact h.pair

/-- R92: the ramp starts towards a target that is not zero. -/
theorem target_ne_zero_of_rampStart {s : State} (hi : s.nextC = .rampStart) : s.afterE.target ≠ 0 := by
  obtain ⟨-, -, -, htarget⟩ := (nextC_eq_iff s _).mp hi
  exact htarget

/-- R92: `RAMP_START` writes step 0. -/
theorem stepWritten_of_exec_rampStart {s u : State} (h : exec .rampStart s = .next u) :
    StepWritten s.target 0 u ∧ u.wr.isSome = true := by
  obtain rfl := Host.Outcome.next.inj h
  refine ⟨⟨rfl, rfl, rfl, ?_⟩, rfl⟩
  rw [Nat.cast_zero, mul_zero]
  exact ⟨rfl, rfl⟩

/-- R95: `RAMP_STEP` writes the step after the count, the outputs already enabled. -/
theorem stepWritten_of_exec_rampStep {s u : State} (hen : s.pwmEn = true) (h : exec .rampStep s = .next u) :
    StepWritten s.target (s.rampI + 1) u ∧ u.wr.isSome = true := by
  obtain rfl := Host.Outcome.next.inj h
  exact ⟨⟨hen, rfl, rfl, rfl, rfl⟩, rfl⟩

/-- R103: u is the state at the check that follows step k of the ramp `RAMP_START` begins in s, all steps up to k
written. -/
structure AtCheck (s : State) (k : Nat) (u : State) : Prop where
  run : s.RunsTo ((k + 1) * s.cfg.tRamp) u
  phase : u.phase = .ramp
  timer : u.tmr = 0
  step : StepWritten s.afterE.target k u
  written : State.wrCount ((k + 1) * s.cfg.tRamp) s = k + 1

/-- R94: from the tick that writes step k the pacing interval leads to the check that follows it. -/
theorem atCheck_of_write {s v u : State} {k : Nat} (hwf : s.cfg.wf = true) (hrun : s.RunsTo (k * s.cfg.tRamp) v)
    (hcount : State.wrCount (k * s.cfg.tRamp) s = k) (hd : delayOf v.cfg v.nextC = some (.ramp, s.cfg.tRamp))
    (hn : v.NoReset s.cfg.tRamp) (hstep : step v = .next u) (hu : StepWritten s.afterE.target k u)
    (hwr : u.wr.isSome = true) : AtCheck s k (u.waited (s.cfg.tRamp - 1)) := by
  obtain ⟨u', hstep', hup, hut, -, hend, hcount'⟩ := delay_runs (State.runsTo_cfg hrun ▸ hwf) hd rfl hn
  obtain rfl : u = u' := Host.Outcome.next.inj (hstep.symm.trans hstep')
  refine ⟨?run, (u.waited_phase _).trans hup, ?timer, hu.waited _, ?written⟩
  case run =>
    rw [Nat.succ_mul]
    exact State.runsTo_add hrun hend
  case timer => rw [State.waited_tmr, hut, Nat.sub_self]
  case written => rw [Nat.succ_mul, State.wrCount_add _ hrun, hcount, hcount', if_pos hwr]

/-- R92: the first check is one pacing interval after `RAMP_START`. -/
theorem exists_atCheck_zero {s : State} (hwf : s.cfg.wf = true) (hi : s.nextC = .rampStart)
    (hn : s.NoReset s.cfg.tRamp) : ∃ u, AtCheck s 0 u := by
  have hd : delayOf s.cfg s.nextC = some (.ramp, s.cfg.tRamp) := by rw [hi]; rfl
  obtain ⟨u, hstep⟩ := step_next s
  obtain ⟨hu, hwr⟩ := stepWritten_of_exec_rampStart (hi ▸ exec_nextC (hn 0 (delay_pos hwf hd)) hstep)
  have hrun : s.RunsTo (0 * s.cfg.tRamp) s := by
    rw [Nat.zero_mul]
    exact State.runsTo_zero s
  exact ⟨_, atCheck_of_write hwf hrun (by rw [Nat.zero_mul]; rfl) hd hn hstep hu hwr⟩

/-- R100: the C slot of a check sees the ramp's target. -/
theorem AtCheck.afterE_target {s u : State} {k : Nat} (h : AtCheck s k u) : u.afterE.target = s.afterE.target :=
  (afterE_target_of_ne (by simp [h.phase])).trans h.step.target

/-- R95: at a check with steps to go and the dead-man held, the step is written. -/
theorem AtCheck.nextC_step {s u : State} {k : Nat} (h : AtCheck s k u) (hlt : k < s.afterE.target.natAbs)
    (hdm : u.nextEdge.iw.getLsbD 3 = false) : u.nextC = .rampStep := by
  refine (nextC_eq_iff u _).mpr ⟨u.afterE_phase.trans h.phase, u.afterE_tmr.trans h.timer, by rw [inDm, hdm]; rfl, ?_⟩
  rwa [h.afterE_target, State.afterE_rampI, h.step.count]

/-- R95: one pacing interval after a check whose step is written comes the next. -/
theorem AtCheck.succ {s u : State} {k : Nat} (h : AtCheck s k u) (hwf : s.cfg.wf = true)
    (hi : u.nextC = .rampStep) (hn : s.NoReset ((k + 2) * s.cfg.tRamp)) : ∃ v, AtCheck s (k + 1) v := by
  have hcfg := State.runsTo_cfg h.run
  have hd : delayOf u.cfg u.nextC = some (.ramp, s.cfg.tRamp) := by rw [hi, hcfg]; rfl
  rw [Nat.succ_mul] at hn
  have hnu : u.NoReset s.cfg.tRamp := noReset_of_run h.run hn
  obtain ⟨v, hstep⟩ := step_next u
  obtain ⟨hv, hwr⟩ := stepWritten_of_exec_rampStep (u.afterE_pwmEn.trans h.step.enabled)
    (hi ▸ exec_nextC (hnu 0 (delay_pos (hcfg ▸ hwf) hd)) hstep)
  rw [h.afterE_target, State.afterE_rampI, h.step.count] at hv
  exact ⟨_, atCheck_of_write hwf h.run h.written hd hnu hstep hv hwr⟩

/-- R103: with the dead-man held at every check before it, the check that follows step k is reached, by induction on
k. -/
theorem exists_atCheck {s : State} (hwf : s.cfg.wf = true) (hi : s.nextC = .rampStart) {k : Nat}
    (hle : k ≤ s.afterE.target.natAbs) (hn : s.NoReset ((k + 1) * s.cfg.tRamp))
    (hdm : ∀ j, 1 ≤ j → j < k + 1 → (s.edgeAt (j * s.cfg.tRamp)).iw.getLsbD 3 = false) : ∃ u, AtCheck s k u := by
  induction k with
  | zero => exact exists_atCheck_zero hwf hi (by rwa [Nat.one_mul] at hn)
  | succ k ih =>
    obtain ⟨u, hu⟩ := ih (Nat.le_of_succ_le hle) (State.noReset_of_le hn (Nat.mul_le_mul_right _ (Nat.le_succ _)))
      (fun j hj hjk => hdm j hj (by omega))
    refine hu.succ hwf (hu.nextC_step hle ?_) hn
    rw [nextEdge_of_run hu.run]
    exact hdm (k + 1) (Nat.succ_pos k) (Nat.lt_succ_self _)

/-- R96: at the check after the last step, with the dead-man held, the ramp is done, the whole target on the outputs. -/
theorem AtCheck.done {s u : State} (h : AtCheck s s.afterE.target.natAbs u)
    (hdm : u.nextEdge.iw.getLsbD 3 = false) :
    u.nextC = .rampDone ∧ u.pwmView = some (1500 + 5 * u.target, 1500 - 5 * u.target) := by
  obtain ⟨hen, htarget, hcount, hA, hB⟩ := h.step
  rw [Int.sign_mul_natAbs] at hA hB
  refine ⟨(nextC_eq_iff u _).mpr ⟨u.afterE_phase.trans h.phase, u.afterE_tmr.trans h.timer, by rw [inDm, hdm]; rfl,
    by rw [h.afterE_target, State.afterE_rampI, hcount]⟩, ?_⟩
  rw [pwmView_of_enabled hen, hA, hB, htarget]
  rfl

/-- Settles O46: the checks before the last step run `RAMP_STEP`, and the one after it `RAMP_DONE`. -/
theorem rampReachesTheTargetOnTime : Obligations.RampReachesTheTargetOnTime := by
  rintro s _ hwf hi rfl hn hdm
  refine ⟨Int.natAbs_pos.mpr (target_ne_zero_of_rampStart hi), fun j hj hjm => ?step, ?done⟩
  case step =>
    obtain ⟨k, rfl⟩ : ∃ k, j = k + 1 := ⟨j - 1, by omega⟩
    obtain ⟨u, hu⟩ := exists_atCheck (k := k) hwf hi (by omega)
      (State.noReset_of_le hn (Nat.mul_le_mul_right _ (by omega)))
      (fun i h1 hij => hdm i h1 (by omega))
    exact ⟨u, hu.run, hu.nextC_step hjm (by rw [nextEdge_of_run hu.run]; exact hdm _ hj (by omega)),
      congrArg (· + 1) hu.step.count⟩
  case done =>
    obtain ⟨u, hu⟩ := exists_atCheck hwf hi le_rfl hn (fun i h1 hij => hdm i h1 (by omega))
    obtain ⟨hdone, hview⟩ := hu.done (by rw [nextEdge_of_run hu.run]; exact hdm _ (Nat.succ_pos _) le_rfl)
    exact ⟨u, hu.run, hdone, hu.step.count, hu.step.target, hview, hu.written⟩

/-- R97, R117: at a step tick with the dead-man released the ramp is aborted. -/
theorem step_of_released_check {u : State} (hp : u.phase = .ramp) (ht : u.tmr = 0) (hrst : u.nextEdge.rst = false)
    (hdm : u.nextEdge.iw.getLsbD 3 = true) :
    u.nextC = .rampAbort ∧ ∃ t, step u = .next t ∧ t.pwmView = none ∧ t.phase = .settle ∧ t.wr = none ∧
      t.rampI = u.rampI := by
  have hi : u.nextC = .rampAbort :=
    (nextC_eq_iff u _).mpr ⟨u.afterE_phase.trans hp, u.afterE_tmr.trans ht, by rw [inDm, hdm]; rfl⟩
  exact ⟨hi, _, step_of_nextC hrst hi rfl, pwmView_of_disabled u.afterE.safeStop_pwmEn, rfl, u.afterE_wr,
    u.afterE_rampI⟩

/-- Settles O47: the check of step S is reached with S pairs written, and its abort writes none. -/
theorem rampAbortsAtTheReleasedCheck : Obligations.RampAbortsAtTheReleasedCheck := by
  intro s S hwf hi hS hle hn hdm hrel
  obtain ⟨k, rfl⟩ : ∃ k, S = k + 1 := ⟨S - 1, by omega⟩
  obtain ⟨u, hu⟩ := exists_atCheck hwf hi (Nat.le_of_succ_le_succ hle) (State.noReset_of_le hn (Nat.le_succ _)) hdm
  have hedge := nextEdge_of_run hu.run
  obtain ⟨habort, t, hstep, hview, hp, hwr, hcount⟩ := step_of_released_check hu.phase hu.timer
    (by rw [hedge]; exact hn _ (Nat.lt_succ_self _)) (by rw [hedge]; exact hrel)
  refine ⟨u, t, hu.run, habort, hstep, hview, hp, hwr, by rw [hcount, hu.step.count], ?_⟩
  rw [State.wrCount_add 1 hu.run, hu.written, wrCount_one hstep, hwr]
  rfl

/-- R104(a) in `RAMP`: the next check comes when the timer has run down, and aborts. -/
theorem release_in_ramp {s : State} (hinv : Inv s) (hwf : s.cfg.wf = true) (hn : s.NoReset s.cfg.tRamp)
    (hdm : ∀ j < s.cfg.tRamp, (s.edgeAt j).iw.getLsbD 3 = true) (hp : s.phase = .ramp) :
    ∃ k t, 1 ≤ k ∧ k ≤ s.cfg.tRamp ∧ s.RunsTo k t ∧ t.pwmView = none ∧ t.phase = .settle ∧ State.wrCount k s = 0 := by
  have hlt : s.tmr < s.cfg.tRamp := by
    have hle := hinv.timer_ramp hp
    obtain ⟨-, hpos⟩ := intervals_pos hwf
    omega
  obtain ⟨hrun, hcount⟩ := runsTo_waited (n := s.tmr) (by rw [hp]; rfl) le_rfl (State.noReset_of_le hn hlt.le)
  have hedge := nextEdge_of_run hrun
  obtain ⟨-, t, hstep, hview, htp, hwr, -⟩ := step_of_released_check (u := s.waited s.tmr)
    (by rw [State.waited_phase, hp]) (by rw [State.waited_tmr, Nat.sub_self])
    (by rw [hedge]; exact hn _ hlt) (by rw [hedge]; exact hdm _ hlt)
  refine ⟨s.tmr + 1, t, Nat.succ_pos _, hlt, runsTo_snoc hrun hstep, hview, htp, ?_⟩
  rw [State.wrCount_add 1 hrun, hcount, wrCount_one hstep, hwr]
  rfl

/-- R99: in `HOLD` one released sample is enough. -/
theorem step_of_release_in_hold {s : State} (hp : s.phase = .hold) (hrst : s.nextEdge.rst = false)
    (hdm : s.nextEdge.iw.getLsbD 3 = true) :
    ∃ t, step s = .next t ∧ t.pwmView = none ∧ t.phase = .settle ∧ t.wr = none := by
  have hi : s.nextC = .holdRelease := (nextC_eq_iff s _).mpr ⟨s.afterE_phase.trans hp, by rw [inDm, hdm]; rfl⟩
  exact ⟨_, step_of_nextC hrst hi rfl, pwmView_of_disabled s.afterE.safeStop_pwmEn, rfl, s.afterE_wr⟩

/-- Settles O49: from a ramp's next check, or from the hold at once. -/
theorem releaseDisablesWithinOneInterval : Obligations.ReleaseDisablesWithinOneInterval := by
  intro s hinv hwf hn hdm
  refine ⟨release_in_ramp hinv hwf hn hdm, fun hp => ?_⟩
  obtain ⟨-, hpos⟩ := intervals_pos hwf
  obtain ⟨t, hstep, hrest⟩ := step_of_release_in_hold hp (hn 0 hpos) (hdm 0 hpos)
  exact ⟨t, State.runsTo_one hstep, hrest⟩

/-- R98: a held tick of `HOLD` takes its edge and writes the target's pair. -/
theorem step_of_hold {s : State} (hp : s.phase = .hold) (hrst : s.nextEdge.rst = false)
    (hdm : s.nextEdge.iw.getLsbD 3 = false) : step s = .next (s.takeEdge.writeOffset s.target) := by
  have hi : s.nextC = .holdWrite := (nextC_eq_iff s _).mpr ⟨s.afterE_phase.trans hp, by rw [inDm, hdm]; rfl⟩
  refine step_of_nextC hrst hi ?_
  rw [afterE_of_no_poll (by simp [hp])]
  rfl

/-- Settles O48: by induction on the ticks after the first; each leaves the phase, the target and one more event. -/
theorem holdRewritesUntilReleased : Obligations.HoldRewritesUntilReleased := by
  intro s n hp hn hdm
  have hstep := step_of_hold hp (State.noReset_next hn) (hdm 0 (Nat.succ_pos n))
  induction n generalizing s with
  | zero =>
    refine ⟨?_, wrCount_one hstep⟩
    rw [List.drop_one]
    exact State.runsTo_one hstep
  | succ n ih =>
    have hrest : (s.takeEdge.writeOffset s.target).NoReset (n + 1) := State.noReset_step hstep hn
    have hdm' (j : Nat) (hj : j < n + 1) : ((s.takeEdge.writeOffset s.target).edgeAt j).iw.getLsbD 3 = false := by
      rw [State.step_edgeAt hstep]
      exact hdm (j + 1) (Nat.succ_lt_succ hj)
    obtain ⟨hrun, hcount⟩ := ih (s.takeEdge.writeOffset s.target) hp hrest hdm'
      (step_of_hold hp (State.noReset_next hrest) (hdm' 0 (Nat.succ_pos n)))
    refine ⟨State.runsTo_succ hstep ?_, ?_⟩
    · have hedges : s.edges + 1 + (n + 1) = s.edges + (n + 1 + 1) := by omega
      rw [← List.drop_tail, ← hedges]
      exact hrun
    · rw [wrCount_succ _ hstep, hcount, Nat.add_comm]
      rfl

end Sys2Proof.Machine

/-! From reset (R130, R142): the menu's settle interval bounds every way out of the menu. -/

namespace Sys2Proof.Machine

/-- R24 along a run. -/
theorem inv_of_run {s t : State} {n : Nat} (h : Inv s) (hrun : s.RunsTo n t) : Inv t := by
  induction n generalizing s with
  | zero => exact State.runsTo_zero_inv hrun ▸ h
  | succ n ih =>
    obtain ⟨u, hstep, hrest⟩ := State.runsTo_succ_inv hrun
    exact ih (stepKeepsReachableStateInvariants s u h hstep) hrest

/-- The last step of a run. -/
theorem runsTo_snoc_inv {s t : State} {n : Nat} (hrun : s.RunsTo (n + 1) t) :
    ∃ u, s.RunsTo n u ∧ step u = .next t := by
  induction n generalizing s with
  | zero =>
    obtain ⟨u, hstep, hrest⟩ := State.runsTo_succ_inv hrun
    exact ⟨s, State.runsTo_zero s, State.runsTo_zero_inv hrest ▸ hstep⟩
  | succ n ih =>
    obtain ⟨v, hstep, hrest⟩ := State.runsTo_succ_inv hrun
    obtain ⟨u, hu, hlast⟩ := ih hrest
    exact ⟨u, State.runsTo_succ hstep hu, hlast⟩

/-- R142(c): the menu, or its settle interval with at least n ticks to go. -/
def MenuFor (n : Nat) (s : State) : Prop :=
  s.phase = .menu ∧ n ≤ s.cfg.tDebounce ∨ s.phase = .menuDb ∧ n ≤ s.tmr

/-- R85, R87: a tick uses up one of them. -/
theorem menuFor_step {s t : State} {n : Nat} (h : MenuFor (n + 1) s) (hrst : s.nextEdge.rst = false)
    (hstep : step s = .next t) : MenuFor n t := by
  have hcfg := (State.step_environment hstep).2.2
  have hex := exec_nextC hrst hstep
  obtain ⟨hp, hle⟩ | ⟨hp, hle⟩ := h
  case inl =>
    cases hsel : inSel s.nextEdge.iw
    case false =>
      have hi : s.nextC = .menuPoll := (nextC_eq_iff s _).mpr ⟨s.afterE_phase.trans hp, hsel⟩
      have hphase : t.phase = s.phase := by rw [phase_of_tick hrst hstep, hi]; rfl
      exact .inl ⟨hphase.trans hp, by rw [hcfg]; omega⟩
    case true =>
      have hi : s.nextC = .menuPress := (nextC_eq_iff s _).mpr ⟨s.afterE_phase.trans hp, hsel⟩
      obtain ⟨htp, htt⟩ := delay_started (p := .menuDb) (T := s.cfg.tDebounce) (by rw [hi]; rfl) hrst hstep
      exact .inr ⟨htp, by omega⟩
  case inr =>
    have hw := step_of_waiting (s := s) (by rw [hp]; rfl) (by omega) hrst
    obtain rfl := Host.Outcome.next.inj (hw.symm.trans hstep)
    exact .inr ⟨hp, Nat.le_sub_one_of_lt hle⟩

/-- R142(c): for that many ticks the menu is not left, by induction on them. -/
theorem menu_of_menuFor {s t : State} {n : Nat} (h : MenuFor n s) (hn : s.NoReset n) (hrun : s.RunsTo n t) :
    t.phase = .menu ∨ t.phase = .menuDb := by
  induction n generalizing s with
  | zero =>
    rw [State.runsTo_zero_inv hrun]
    exact h.imp And.left And.left
  | succ n ih =>
    obtain ⟨u, hstep, hrest⟩ := State.runsTo_succ_inv hrun
    exact ih (menuFor_step h (State.noReset_next hn) hstep) (State.noReset_step hstep hn) hrest

/-- A tick out of the menu or its settle interval enables nothing. -/
theorem pwmEn_of_menu_tick {u t : State} (hinv : Inv u) (hp : u.phase = .menu ∨ u.phase = .menuDb)
    (hrst : u.nextEdge.rst = false) (h : step u = .next t) : t.pwmEn = false := by
  obtain ⟨-, -, hoff⟩ := hinv.menu_state hp
  by_contra hon
  obtain ⟨-, hidle, -⟩ := outputsAreEnabledOnlyByRampStart u t hrst h hoff (Bool.eq_true_of_not_eq_false hon)
  simp [hidle] at hp

/-- R28: the reset values meet R24 under any inputs. -/
theorem inv_of_reset {s : State} {c : Config}
    (hs : s = { State.resetWith c with inputs := s.inputs, edges := s.edges }) :
    Inv s := by
  have h := inv_resetWith c
  rw [hs]
  cases h; constructor <;> assumption

/-- Settles O53: the menu lasts `T_DEBOUNCE` ticks at least, and the tick that leaves it enables nothing. -/
theorem earliestControlScreenAndEnable : Obligations.EarliestControlScreenAndEnable := by
  intro s c n t _ hs hn hrun
  have hp : s.phase = .menu := (congrArg State.phase hs :)
  have hcfg : s.cfg = c := (congrArg State.cfg hs :)
  have hmenu {k : Nat} {u : State} (hk : k ≤ c.tDebounce) (hnk : s.NoReset k) (hu : s.RunsTo k u) :
      u.phase = .menu ∨ u.phase = .menuDb := menu_of_menuFor (.inl ⟨hp, hcfg ▸ hk⟩) hnk hu
  refine ⟨fun hle => hmenu hle hn hrun, fun hle => ?_⟩
  cases n with
  | zero =>
    rw [State.runsTo_zero_inv hrun]
    exact (congrArg State.pwmEn hs :)
  | succ n =>
    obtain ⟨u, hu, hlast⟩ := runsTo_snoc_inv hrun
    have hrst : u.nextEdge.rst = false := by
      rw [nextEdge_of_run hu]
      exact hn n (Nat.lt_succ_self n)
    exact pwmEn_of_menu_tick (inv_of_run (inv_of_reset hs) hu)
      (hmenu (Nat.le_of_succ_le_succ hle) (State.noReset_of_le hn (Nat.le_succ n)) hu) hrst hlast

/-- R88, R89: the tick that completes the menu's settle interval selects the item under the cursor. -/
theorem step_of_selection {u : State} (hp : u.phase = .menuDb) (ht : u.tmr = 0) (hrst : u.nextEdge.rst = false) :
    u.nextC = (if u.menuIdx = 0 then .selMaster else .selSlave) ∧
      ∃ t, step u = .next t ∧ t.target = u.target ∧ t.pwmEn = u.pwmEn ∧
        t.phase = (if u.menuIdx = 0 then .ctrlIdle else .slave) := by
  have hidx : u.afterE.menuIdx = u.menuIdx := afterE_menuIdx_of_ne (by simp [hp])
  have htarget : u.afterE.target = u.target := afterE_target_of_ne (by simp [hp])
  have hp' := u.afterE_phase.trans hp
  have ht' := u.afterE_tmr.trans ht
  split
  case isTrue h0 =>
    have hi : u.nextC = .selMaster := (nextC_eq_iff u _).mpr ⟨hp', ht', hidx.trans h0⟩
    exact ⟨hi, _, step_of_nextC hrst hi rfl, htarget, u.afterE_pwmEn, rfl⟩
  case isFalse h0 =>
    have hone : u.menuIdx = 1 := by
      by_contra hne
      exact h0 ((menuIdx_ne_one_iff _).mp hne)
    have hi : u.nextC = .selSlave := (nextC_eq_iff u _).mpr ⟨hp', ht', hidx.trans hone⟩
    exact ⟨hi, _, step_of_nextC hrst hi rfl, htarget, u.afterE_pwmEn, rfl⟩

/-- Settles O54: the press, its settle interval, and the selection; nothing of them writes the target or the enable. -/
theorem selectHeldAtReset : Obligations.SelectHeldAtReset := by
  intro s c hwf hs hsel hn
  have hp : s.phase = .menu := (congrArg State.phase hs :)
  obtain rfl : s.cfg = c := (congrArg State.cfg hs :)
  have hi : s.nextC = .menuPress := (nextC_eq_iff s _).mpr ⟨s.afterE_phase.trans hp, by rw [inSel, hsel]; rfl⟩
  have hd : delayOf s.cfg s.nextC = some (.menuDb, s.cfg.tDebounce) := by rw [hi]; rfl
  obtain ⟨u, hstep, hup, hut, -, hend, -⟩ := delay_runs hwf hd rfl (State.noReset_of_le hn (Nat.le_succ _))
  have hrst := State.noReset_next hn
  obtain ⟨htarget, hidx, -⟩ := tick_encoderRegs hrst hstep
  have hzero : u.target = 0 :=
    htarget.trans ((afterE_target_of_ne (by simp [hp])).trans (congrArg State.target hs :))
  have hoff : u.pwmEn = false := pwmEn_of_menu_tick (inv_of_reset hs) (.inl hp) hrst hstep
  obtain ⟨hsel', t, hlast, httarget, hten, htp⟩ := step_of_selection (u := u.waited (s.cfg.tDebounce - 1))
    (by rw [State.waited_phase, hup]) (by rw [State.waited_tmr, hut, Nat.sub_self])
    (by rw [nextEdge_of_run hend]; exact hn _ (Nat.lt_succ_self _))
  rw [State.waited_menuIdx, hidx] at hsel' htp
  exact ⟨hi, _, t, hend, hsel', runsTo_snoc hend hlast, by rw [httarget, State.waited_target, hzero],
    by rw [hten, State.waited_pwmEn, hoff], htp⟩

end Sys2Proof.Machine
